-- ==== Sys2Proof/Word.lean ====
section
/-! DEFINITION. Word types: the byte and the 16-bit address (spec 00_scope.md R7, R9). -/

namespace Sys2Proof

/-- An 8-bit register or memory byte (R7 "register width 8", R9 `u8`). -/
abbrev Byte := BitVec 8

/-- A 16-bit program counter or bus address (R7 "PC and address width 16", R9 `u16`). -/
abbrev Addr := BitVec 16

end Sys2Proof
end

