-- ==== Sys2Proof/Config.lean ====
section
/-! DEFINITION. Implementation parameters (spec 00_scope.md R7) as one record of plain data, and the free values (R10 `draw()`). -/

namespace Sys2Proof

/-- `CMP_FLAGS` (R126): which N a compare leaves. -/
inductive CmpFlags where
  | exclusive
  | silicon
  deriving DecidableEq, Repr

/-- `BIT_IMM_FLAGS` (R143): whether `BIT #imm` writes N and V. -/
inductive BitImmFlags where
  | uniform
  | wdc
  deriving DecidableEq, Repr

/-- `DEC_V` (R122, R123): V after a decimal ADC or SBC, by the rule's steps or free. -/
inductive DecV where
  | rule
  | draw
  deriving DecidableEq, Repr

/-- `DISK_CLEAR` (R225, R226): which data-port access clears the disk command. -/
inductive DiskClear where
  | after512th
  | on513th
  deriving DecidableEq, Repr

/-- The parameters of R7 that a built machine keeps; `ROM` and `DISK_IMAGE` are boot inputs and are arguments of
`Machine.powerOn`. A parameter is a field of State (`State.cfg`), so a statement about every state holds for every setting. -/
structure Config where
  /-- `CLOCK_WIDTH`, the bits of `cycleClock` (R32). -/
  clockWidth       : Nat
  /-- `SP_RESET`: a byte, or `none` for the spec's `unwritten`. -/
  spReset          : Option Byte
  diskAttached     : Bool
  diskBase         : Addr
  viaPresent       : Bool
  viaBase          : Addr
  serialOut        : Addr
  serialIn         : Addr
  serialReady      : Addr
  serialReadyValue : Byte
  nullWindows      : List Addr
  wdcUnnamedExt    : Bool
  cmpFlags         : CmpFlags
  bitImmFlags      : BitImmFlags
  decV             : DecV
  diskClear        : DiskClear
  /-- `CYCLES`, indexed by the opcode byte. -/
  cycles           : List Nat
  irqCycles        : Nat
  deriving DecidableEq, Repr

/-- The byte of the n-th draw: any value (R10, R225, R227, R229, R243). Log entry 6. -/
opaque Config.freeByte : Nat → Byte

/-- The bit of the n-th draw: any value (V under `DEC_V = draw`, R122, R123; whether the stall detector pauses, R262). Log entry 6. -/
opaque Config.freeBool : Nat → Bool

/-- The log lines of the n-th draw: any number of lines with any text (R262). Log entries 6 and 7. -/
opaque Config.freeLines : Nat → List String

/-- The text of the one line that the stall detector emits when it pauses: any text (R262). Log entries 6 and 7. -/
opaque Config.freeText : Nat → String

/-- Whether the n-th event a machine emits is lost where its receiver may have left: any value (R260, U25). Log entry 13. -/
opaque Config.freeLoss : Nat → Bool

end Sys2Proof
end

