-- ==== Sys2Proof/Machine/Platform.lean ====
section
/-! DEFINITION. The cycle table of spec/opcode_table.json (70_reset_and_hazards.md R282) and the configuration of State.reset:
the defaults of 00_scope.md R7, with example configuration E of 95_test_vectors.md for the OPEN parameters (log entries 2, 3). -/

namespace Sys2Proof.Machine

/-- `CYCLES` (R282): the `cycles` field of spec/opcode_table.json, indexed by the opcode byte, sixteen opcodes a line. -/
def defaultCycles : List Nat :=
  [7, 6, 2, 1, 5, 3, 5, 5, 3, 2, 2, 1, 6, 4, 6, 5] ++
  [2, 5, 5, 1, 5, 4, 6, 5, 2, 4, 2, 1, 6, 4, 6, 5] ++
  [6, 6, 2, 1, 3, 3, 5, 5, 4, 2, 2, 1, 4, 4, 6, 5] ++
  [2, 5, 5, 1, 4, 4, 6, 5, 2, 4, 2, 1, 4, 4, 6, 5] ++
  [6, 6, 2, 1, 3, 3, 5, 5, 3, 2, 2, 1, 3, 4, 6, 5] ++
  [2, 5, 5, 1, 4, 4, 6, 5, 2, 4, 3, 1, 8, 4, 6, 5] ++
  [6, 6, 2, 1, 3, 3, 5, 5, 4, 2, 2, 1, 6, 4, 6, 5] ++
  [2, 5, 5, 1, 4, 4, 6, 5, 2, 4, 4, 1, 6, 4, 6, 5] ++
  [3, 6, 2, 1, 3, 3, 3, 5, 2, 2, 2, 1, 4, 4, 4, 5] ++
  [2, 6, 5, 1, 4, 4, 4, 5, 2, 5, 2, 1, 4, 5, 5, 5] ++
  [2, 6, 2, 1, 3, 3, 3, 5, 2, 2, 2, 1, 4, 4, 4, 5] ++
  [2, 5, 5, 1, 4, 4, 4, 5, 2, 4, 2, 1, 4, 4, 4, 5] ++
  [2, 6, 2, 1, 3, 3, 5, 5, 2, 2, 2, 3, 4, 4, 6, 5] ++
  [2, 5, 5, 1, 4, 4, 6, 5, 2, 4, 3, 3, 4, 4, 7, 5] ++
  [2, 6, 2, 1, 3, 3, 5, 5, 2, 2, 2, 1, 4, 4, 6, 5] ++
  [2, 5, 5, 1, 4, 4, 6, 5, 2, 4, 4, 1, 4, 4, 7, 5]
/-- The configuration of State.reset. DESIGN CHOICE (log entry 2): the OPEN addresses and `SERIAL_READY_VALUE` are those of example
configuration E. DESIGN CHOICE (log entry 3): `SP_RESET` is the u8 0xFD of 95 X16. Every other parameter has the default of R7. -/
def resetConfig : Config where
  clockWidth       := 64
  spReset          := some 0xFD
  diskAttached     := true
  diskBase         := 0x8010
  viaPresent       := true
  viaBase          := 0x8020
  serialOut        := 0x8000
  serialIn         := 0x8001
  serialReady      := 0x8002
  serialReadyValue := 0x01
  nullWindows      := []
  wdcUnnamedExt    := true
  cmpFlags         := .exclusive
  bitImmFlags      := .uniform
  decV             := .rule
  diskClear        := .after512th
  cycles           := defaultCycles
  irqCycles        := 7

end Sys2Proof.Machine
end

