-- ==== Sys2Proof/Machine/State.lean ====
section
/-! DEFINITION. The state of the machine as plain data (spec 10_state.md R20-R39, 20_memory.md R40-R41, 60_exceptions.md R211,
R222, R233, R258-R259), its reset value, and the ways a step can stop. -/

namespace Sys2Proof.Machine

/-- Flat storage (R40): the nonzero bytes, by strictly rising address; an unlisted address holds 0x00 (R41). -/
abbrev Memory := List Host.Cell

/-- Run-state (R35, R211). -/
inductive RunState where
  | running
  | paused
  deriving DecidableEq, Repr

/-- Step-request (R35, R211). -/
inductive StepRequest where
  | idle
  | stepOnce
  deriving DecidableEq, Repr

/-- `cpuMode` (R35), set by WAI (R205) and STP (R206). -/
inductive CpuMode where
  | executing
  | waiting
  | stopped
  deriving DecidableEq, Repr

/-- The disk's `command` (R222, R230). -/
inductive DiskCommand where
  | none
  | read
  | write
  deriving DecidableEq, Repr

/-- The disk controller (R222): the LBA fields, `sectorByteOffset`, `command` and `backingStore`. -/
structure Disk where
  lba0    : Byte
  lba1    : Byte
  lba2    : Byte
  lba3    : BitVec 4
  offset  : Nat
  command : DiskCommand
  store   : List Byte
  deriving DecidableEq, Repr

/-- The timer (R233). -/
structure Timer where
  t1c      : BitVec 16
  t1l      : BitVec 16
  t2c      : BitVec 16
  t2l      : BitVec 16
  t1run    : Bool
  t2run    : Bool
  ifr      : Byte
  ier      : Byte
  acr      : Byte
  pcr      : Byte
  asserted : Bool
  deriving DecidableEq, Repr

/-- The processor state that a snapshot carries (R39). `spHeld` is false where SP is `unwritten`. -/
structure ProcessorState where
  a                  : Byte
  x                  : Byte
  y                  : Byte
  sp                 : Byte
  spHeld             : Bool
  pc                 : Addr
  p                  : Byte
  cycleClock         : Nat
  currentInstruction : Byte
  irqLine            : Bool
  deriving DecidableEq, Repr

/-- A host command (R258). -/
inductive HostCommand where
  | fetchMemorySnapshot
  | fetchProcessorSnapshot
  | reset
  | sendInputByte (c : Char)
  | setLogLevel (n : Byte)
  | togglePause
  | step
  deriving DecidableEq, Repr

/-- An engine event (R259). A memory snapshot carries flat storage in its canonical form. -/
inductive EngineEvent where
  | logLine (text : String)
  | outputByte (v : Byte)
  | memorySnapshot (storage : Memory)
  | processorSnapshot (state : ProcessorState)
  deriving DecidableEq, Repr

/-- The host's end of the event channel (R260, R265). -/
inductive Receiver where
  /-- The host keeps its receiver: no event is lost. -/
  | kept
  /-- The host may drop its receiver at any time: which events are lost is free (U25). -/
  | mayLeave
  /-- The receiver is gone: a send to it is dropped. -/
  | gone
  deriving DecidableEq, Repr

/-- The state of the machine. -/
structure State where
  /-- The parameters of R7; no step changes them (log entry 1). -/
  cfg                : Config
  a                  : Byte
  x                  : Byte
  y                  : Byte
  sp                 : Byte
  /-- Whether SP holds a value (R22): false is the spec's `unwritten`. -/
  spHeld             : Bool
  p                  : Byte
  pc                 : Addr
  /-- A counter modulo 2 to the power `cfg.clockWidth` (R32). -/
  cycleClock         : Nat
  currentInstruction : Byte
  irqLine            : Bool
  runState           : RunState
  stepRequest        : StepRequest
  cpuMode            : CpuMode
  mem                : Memory
  disk               : Disk
  timer              : Timer
  logLevel           : Byte
  /-- The host's commands (R258, R265), one list for each coming step, oldest first: the first list is pending now and the next
  step applies it; a list after it arrives at a later step boundary. A step past the end has none (log entry 12). -/
  commands           : List (List HostCommand)
  /-- Events emitted so far, oldest first (R259, R260). -/
  events             : List EngineEvent
  /-- The host's receiver, which the host alone changes (R260, R265; log entry 13). -/
  receiver           : Receiver
  /-- The events that reached the receiver, oldest first (R260, R265). -/
  delivered          : List EngineEvent
  /-- The model's own field: how many free values have been drawn (log entry 6). -/
  drawCount          : Nat
  deriving DecidableEq, Repr

/-- The model faults (R219). A faulted state takes no further step. -/
inductive Fault where
  /-- Raised by a disk data-port access (R225, R226) whose byte is at or past the end of the backing store. Safe: the spec gives
  no effect there (D19). -/
  | diskOutOfRange
  /-- Raised by every read of SP (push, pull, TSX, JSR, RTS, BRK, RTI, interrupt entry) while SP is `unwritten` (R22). Safe (D17). -/
  | unwrittenSP
  deriving DecidableEq, Repr

/-- The refusals. -/
inductive Refusal where
  /-- Answered by `exec` for an instruction that has no meaning yet; no arm does so. Safe. -/
  | notModelled (mnemonic : String)
  /-- Answered by `powerOn` for an ill-formed configuration or ROM (R8, R217(a)): no machine is built. Safe. -/
  | badConfiguration
  deriving DecidableEq, Repr

/-- The machine right after reset (R38), in the configuration `resetConfig`, with the ROM image of one byte 0x00 and no disk
image (log entries 2 to 5): flat storage lists nothing, so the reset vector reads 0x0000. -/
def State.reset : State where
  cfg                := resetConfig
  a                  := 0x00
  x                  := 0x00
  y                  := 0x00
  sp                 := 0xFD
  spHeld             := true
  p                  := 0x30
  pc                 := 0x0000
  cycleClock         := 0
  currentInstruction := 0x00
  irqLine            := false
  runState           := .running
  stepRequest        := .idle
  cpuMode            := .executing
  mem                := []
  disk               := { lba0 := 0, lba1 := 0, lba2 := 0, lba3 := 0, offset := 0, command := .none, store := [] }
  timer              := { t1c := 0, t1l := 0, t2c := 0, t2l := 0, t1run := false, t2run := false,
                          ifr := 0, ier := 0, acr := 0, pcr := 0, asserted := false }
  logLevel           := 0
  commands           := []
  events             := []
  receiver           := .mayLeave
  delivered          := []
  drawCount          := 0

end Sys2Proof.Machine
end

