-- ==== Sys2Proof/Machine/Res.lean ====
section
/-! DEFINITION. The result of one operation inside a step: a value and the state after it, or a model fault (spec 60_exceptions.md R219). -/

namespace Sys2Proof.Machine

/-- What an operation gives: `ok v s` is the value and the state after it; `fault f` ends the run (R10 `raise Fault`). -/
inductive Res (α : Type) where
  | ok (v : α) (s : State)
  | fault (f : Fault)
  deriving Repr

/-- Do the next operation with the value and state of the one before; a fault ends the sequence. -/
def Res.bind {α β : Type} (r : Res α) (next : α → State → Res β) : Res β :=
  match r with
  | .ok v s => next v s
  | .fault f => .fault f

/-- A step outcome: the state after the operation, changed by `finish`. -/
def Res.outcome (r : Res Unit) (finish : State → State) : Host.Outcome State Fault Refusal :=
  match r with
  | .ok _ s => .next (finish s)
  | .fault f => .fault f

end Sys2Proof.Machine
end

