-- ==== Sys2Proof/Machine/Draw.lean ====
section
/-! DEFINITION. Free values (spec 00_scope.md R10 `draw()`): each draw takes the next value of an opaque function (log entry 6). -/

namespace Sys2Proof.Machine

/-- The state after one draw. -/
def State.drawn (s : State) : State := { s with drawCount := s.drawCount + 1 }

/-- A free byte (R10). -/
def drawByte (s : State) : Res Byte := .ok (Config.freeByte s.drawCount) s.drawn

/-- A free bit (R10). -/
def drawBool (s : State) : Res Bool := .ok (Config.freeBool s.drawCount) s.drawn

end Sys2Proof.Machine
end

