-- ==== Sys2Proof/Machine/Disk.lean ====
section
/-! DEFINITION. The disk controller (spec 60_exceptions.md R222-R232). -/

namespace Sys2Proof.Machine

/-- The 28-bit block number `lba3:lba2:lba1:lba0` (R222). -/
def Disk.lba (d : Disk) : Nat := (d.lba3 ++ d.lba2 ++ d.lba1 ++ d.lba0).toNat

/-- The index in the store of the byte the data port reaches (R225). -/
def Disk.byteIndex (d : Disk) : Nat := d.lba * 512 + d.offset

/-- The state of the controller after one byte of a transfer: the offset advances, and the 512th byte clears the command
where `DISK_CLEAR` says so (R225, R226). -/
def Disk.advance (c : DiskClear) (d : Disk) : Disk :=
  { d with
    offset := d.offset + 1
    command := if d.offset + 1 = 512 ∧ c = .after512th then .none else d.command }

/-- A read of the data port, the store not empty (R225). -/
def diskReadData (s : State) : Res Byte :=
  if s.disk.command ≠ .read then drawByte s
  else if s.disk.offset = 512 then drawByte { s with disk := { s.disk with command := .none } }
  else
    match s.disk.store[s.disk.byteIndex]? with
    | none => .fault .diskOutOfRange
    | some v => .ok v { s with disk := s.disk.advance s.cfg.diskClear }

/-- A write of the data port, the store not empty (R226). -/
def diskWriteData (v : Byte) (s : State) : Res Unit :=
  if s.disk.command ≠ .write then .ok () s
  else if s.disk.offset = 512 then .ok () { s with disk := { s.disk with command := .none } }
  else if s.disk.byteIndex < s.disk.store.length then
    .ok () { s with disk := { s.disk.advance s.cfg.diskClear with store := s.disk.store.set s.disk.byteIndex v } }
  else .fault .diskOutOfRange

/-- The command code table (R230). -/
def diskCommandOf (v : Byte) : DiskCommand :=
  if v = 0x20 then .read else if v = 0x30 then .write else .none

/-- The status byte (R231). -/
def Disk.status (d : Disk) : Byte := if d.command = .none then 0x50 else 0x58

/-- A read of disk register `n` (R223-R225, R227, R229, R231); an empty store reads 0x00 everywhere (R224). -/
def diskRead (n : Nat) (s : State) : Res Byte :=
  if s.disk.store = [] then .ok 0x00 s
  else
    match n with
    | 0 => diskReadData s
    | 7 => .ok s.disk.status s
    | _ => drawByte s

/-- A write of disk register `n` (R223, R226-R228, R230); an empty store ignores every write (R224). -/
def diskWrite (n : Nat) (v : Byte) (s : State) : Res Unit :=
  if s.disk.store = [] then .ok () s
  else
    match n with
    | 0 => diskWriteData v s
    | 3 => .ok () { s with disk := { s.disk with lba0 := v } }
    | 4 => .ok () { s with disk := { s.disk with lba1 := v } }
    | 5 => .ok () { s with disk := { s.disk with lba2 := v } }
    | 6 => .ok () { s with disk := { s.disk with lba3 := v.setWidth 4 } }
    | 7 => .ok () { s with disk := { s.disk with command := diskCommandOf v, offset := 0 } }
    | _ => .ok () s

end Sys2Proof.Machine
end

