-- ==== Sys2Proof/Machine/Memory.lean ====
section
/-! DEFINITION. Flat storage (spec 20_memory.md R40-R42): reading and writing one byte of the canonical list. -/

namespace Sys2Proof.Machine

/-- The byte at an address; an unlisted address holds 0x00 (R41). -/
def Memory.get : Memory → Nat → Byte
  | [], _ => 0x00
  | c :: m, a => if c.1 = a then c.2 else Memory.get m a

/-- Put a cell in its place by address. -/
def Memory.insert (c : Host.Cell) : Memory → Memory
  | [] => [c]
  | d :: m => if c.1 < d.1 then c :: d :: m else d :: Memory.insert c m

/-- Write a byte (R42: any address may be written); the byte 0x00 is stored by listing nothing. -/
def Memory.set (m : Memory) (a : Nat) (v : Byte) : Memory :=
  let others := m.filter (fun c => c.1 != a)
  if v = 0x00 then others else Memory.insert (a, v) others

/-- The canonical form: addresses strictly rising and in the address space, no listed byte 0x00. -/
abbrev Memory.wf (m : Memory) : Prop :=
  m.Pairwise (fun c d => c.1 < d.1) ∧ ∀ c ∈ m, c.1 < 65536 ∧ c.2 ≠ 0x00

/-- The cells of consecutive bytes from an address upward, the zero bytes left out. -/
def Memory.cellsFrom (a : Nat) : List Byte → Memory
  | [] => []
  | v :: vs => if v = 0x00 then Memory.cellsFrom (a + 1) vs else (a, v) :: Memory.cellsFrom (a + 1) vs

/-- The storage after construction (R41): byte i of the image at `0x10000 - length + i`, zeros below. -/
def Memory.ofRom (rom : List Byte) : Memory := Memory.cellsFrom (65536 - rom.length) rom

end Sys2Proof.Machine
end

