-- ==== Sys2Proof/Syntax.lean ====
section
/-! DEFINITION. Instruction syntax: one constructor per mnemonic of spec/opcode_table.json; the table's rows of one mnemonic
are the operand forms of its constructor (spec 30_encoding.md R70-R74, 40_addressing.md R91-R105; log entry 9). -/

namespace Sys2Proof

/-- A memory operand: the addressing modes that yield an effective address (R94-R102), with their operand bytes. -/
inductive Address where
  | zp (z : Byte)      -- ZP    R94
  | zpx (z : Byte)     -- ZPX   R95
  | zpy (z : Byte)     -- ZPY   R96
  | izx (z : Byte)     -- IZX   R100
  | izy (z : Byte)     -- IZY   R101
  | izp (z : Byte)     -- IZP   R102
  | abs (w : Addr)     -- ABS   R97
  | absx (w : Addr)    -- ABSX  R98
  | absy (w : Addr)    -- ABSY  R99
  deriving DecidableEq, Repr

/-- A source operand: the immediate byte (R93) or a memory operand. -/
inductive Source where
  | imm (v : Byte)
  | mem (a : Address)
  deriving DecidableEq, Repr

/-- A read-modify-write operand: the accumulator (R92) or a memory operand. -/
inductive Target where
  | acc
  | mem (a : Address)
  deriving DecidableEq, Repr

/-- The operand of JMP: ABS, IND (R103) or AIX (R104). -/
inductive JumpOperand where
  | abs (w : Addr)
  | ind (w : Addr)
  | aix (w : Addr)
  deriving DecidableEq, Repr

/-- The instructions. `z` is a zero-page address, `r` a branch offset byte; an undefined opcode carries its opcode byte. -/
inductive Instr where
  -- loads and stores (41_load_store.md)
  | lda (src : Source)
  | ldx (src : Source)
  | ldy (src : Source)
  | sta (dst : Address)
  | stx (dst : Address)
  | sty (dst : Address)
  | stz (dst : Address)
  -- arithmetic (42_arithmetic.md)
  | adc (src : Source)
  | sbc (src : Source)
  | cmp (src : Source)
  | cpx (src : Source)
  | cpy (src : Source)
  | inc (dst : Target)
  | dec (dst : Target)
  | inx
  | iny
  | dex
  | dey
  -- logic and shifts (43_logic_shift.md)
  | and (src : Source)
  | ora (src : Source)
  | eor (src : Source)
  | bit (src : Source)
  | trb (dst : Address)
  | tsb (dst : Address)
  | rmb0 (z : Byte)
  | rmb1 (z : Byte)
  | rmb2 (z : Byte)
  | rmb3 (z : Byte)
  | rmb4 (z : Byte)
  | rmb5 (z : Byte)
  | rmb6 (z : Byte)
  | rmb7 (z : Byte)
  | smb0 (z : Byte)
  | smb1 (z : Byte)
  | smb2 (z : Byte)
  | smb3 (z : Byte)
  | smb4 (z : Byte)
  | smb5 (z : Byte)
  | smb6 (z : Byte)
  | smb7 (z : Byte)
  | asl (dst : Target)
  | lsr (dst : Target)
  | rol (dst : Target)
  | ror (dst : Target)
  -- control transfer (44_control.md)
  | bcc (r : Byte)
  | bcs (r : Byte)
  | beq (r : Byte)
  | bne (r : Byte)
  | bmi (r : Byte)
  | bpl (r : Byte)
  | bvc (r : Byte)
  | bvs (r : Byte)
  | bra (r : Byte)
  | bbr0 (z r : Byte)
  | bbr1 (z r : Byte)
  | bbr2 (z r : Byte)
  | bbr3 (z r : Byte)
  | bbr4 (z r : Byte)
  | bbr5 (z r : Byte)
  | bbr6 (z r : Byte)
  | bbr7 (z r : Byte)
  | bbs0 (z r : Byte)
  | bbs1 (z r : Byte)
  | bbs2 (z r : Byte)
  | bbs3 (z r : Byte)
  | bbs4 (z r : Byte)
  | bbs5 (z r : Byte)
  | bbs6 (z r : Byte)
  | bbs7 (z r : Byte)
  | jmp (dst : JumpOperand)
  | jsr (w : Addr)
  | rts
  | brk
  | rti
  -- stack, transfers, flags, no-operations, waits (45_stack_transfer_misc.md)
  | pha
  | php
  | phx
  | phy
  | pla
  | plp
  | plx
  | ply
  | tax
  | tay
  | txa
  | tya
  | tsx
  | txs
  | clc
  | sec
  | cli
  | sei
  | cld
  | sed
  | clv
  | nop
  | nop1 (op : Byte)
  | nop2 (op : Byte)
  | nop3 (op : Byte)
  | wai
  | stp
  deriving DecidableEq, Repr

end Sys2Proof
end

