-- ==== Sys2Proof/WellFormed.lean ====
section
/-! DEFINITION. Well-formed instructions (the operand forms the opcode map of spec 30_encoding.md R74 gives each mnemonic, and
R77's reading of the 23 unnamed opcodes) and well-formed configurations (00_scope.md R8). -/

namespace Sys2Proof

/-- The nine modes of the accumulator group with its immediate form: every mode but ZPY (R73, `cc` = 01). -/
def Address.isAccGroup : Address → Bool
  | .zpy _ => false
  | .zp _ | .zpx _ | .izx _ | .izy _ | .izp _ | .abs _ | .absx _ | .absy _ => true

/-- ZP, ABS. -/
def Address.isZpAbs : Address → Bool
  | .zp _ | .abs _ => true
  | .zpx _ | .zpy _ | .izx _ | .izy _ | .izp _ | .absx _ | .absy _ => false

/-- ZP, ZPX, ABS. -/
def Address.isZpZpxAbs : Address → Bool
  | .zp _ | .zpx _ | .abs _ => true
  | .zpy _ | .izx _ | .izy _ | .izp _ | .absx _ | .absy _ => false

/-- ZP, ZPY, ABS. -/
def Address.isZpZpyAbs : Address → Bool
  | .zp _ | .zpy _ | .abs _ => true
  | .zpx _ | .izx _ | .izy _ | .izp _ | .absx _ | .absy _ => false

/-- ZP, ZPX, ABS, ABSX. -/
def Address.isIndexedX : Address → Bool
  | .zp _ | .zpx _ | .abs _ | .absx _ => true
  | .zpy _ | .izx _ | .izy _ | .izp _ | .absy _ => false

/-- ZP, ZPY, ABS, ABSY. -/
def Address.isIndexedY : Address → Bool
  | .zp _ | .zpy _ | .abs _ | .absy _ => true
  | .zpx _ | .izx _ | .izy _ | .izp _ | .absx _ => false

/-- A source operand whose memory forms satisfy `ok`. -/
def Source.wf (ok : Address → Bool) : Source → Bool
  | .imm _ => true
  | .mem a => ok a

/-- A read-modify-write operand whose memory forms satisfy `ok`; `acc` says whether the accumulator form exists. -/
def Target.wf (acc : Bool) (ok : Address → Bool) : Target → Bool
  | .acc => acc
  | .mem a => ok a

/-- The 30 undefined one-byte opcodes (R76). -/
def nop1Opcodes : List Byte :=
  [0x03, 0x13, 0x23, 0x33, 0x43, 0x53, 0x63, 0x73, 0x83, 0x93, 0xA3, 0xB3, 0xC3, 0xD3, 0xE3, 0xF3] ++
  [0x0B, 0x1B, 0x2B, 0x3B, 0x4B, 0x5B, 0x6B, 0x7B, 0x8B, 0x9B, 0xAB, 0xBB, 0xEB, 0xFB]

/-- The 11 undefined two-byte opcodes (R76). -/
def nop2Opcodes : List Byte := [0x02, 0x22, 0x42, 0x62, 0x82, 0xC2, 0xE2, 0x44, 0x54, 0xD4, 0xF4]

/-- The 3 undefined three-byte opcodes (R76). -/
def nop3Opcodes : List Byte := [0x5C, 0xDC, 0xFC]

/-- The unnamed opcodes that become NOP1, NOP2 and NOP3 when `WDC_UNNAMED_EXT` is false (R77). -/
def unnamed1Opcodes : List Byte := [0x1A, 0x3A, 0xCB, 0xDB]
def unnamed2Opcodes : List Byte :=
  [0x07, 0x17, 0x27, 0x37, 0x47, 0x57, 0x67, 0x77] ++ [0x87, 0x97, 0xA7, 0xB7, 0xC7, 0xD7, 0xE7, 0xF7] ++ [0x89, 0x34]
def unnamed3Opcodes : List Byte := [0x3C]

/-- The instructions that exist under the setting `ext` of `WDC_UNNAMED_EXT`, each with the operand forms of the opcode map. -/
def Instr.wellFormed (ext : Bool) : Instr → Bool
  | .lda s | .adc s | .sbc s | .cmp s | .and s | .ora s | .eor s => s.wf Address.isAccGroup
  | .ldx s => s.wf Address.isIndexedY
  | .ldy s => s.wf Address.isIndexedX
  | .sta d => d.isAccGroup
  | .stx d => d.isZpZpyAbs
  | .sty d => d.isZpZpxAbs
  | .stz d => d.isIndexedX
  | .cpx s | .cpy s => s.wf Address.isZpAbs
  | .inc d | .dec d => d.wf ext Address.isIndexedX
  | .asl d | .lsr d | .rol d | .ror d => d.wf true Address.isIndexedX
  | .bit (.imm _) => ext
  | .bit (.mem a) => a.isZpAbs || (ext && a.isIndexedX)
  | .trb d | .tsb d => d.isZpAbs
  | .rmb0 _ | .rmb1 _ | .rmb2 _ | .rmb3 _ | .rmb4 _ | .rmb5 _ | .rmb6 _ | .rmb7 _
  | .smb0 _ | .smb1 _ | .smb2 _ | .smb3 _ | .smb4 _ | .smb5 _ | .smb6 _ | .smb7 _ => ext
  | .wai | .stp => ext
  | .nop1 op => nop1Opcodes.contains op || (!ext && unnamed1Opcodes.contains op)
  | .nop2 op => nop2Opcodes.contains op || (!ext && unnamed2Opcodes.contains op)
  | .nop3 op => nop3Opcodes.contains op || (!ext && unnamed3Opcodes.contains op)
  | .inx | .iny | .dex | .dey => true
  | .bcc _ | .bcs _ | .beq _ | .bne _ | .bmi _ | .bpl _ | .bvc _ | .bvs _ | .bra _ => true
  | .bbr0 _ _ | .bbr1 _ _ | .bbr2 _ _ | .bbr3 _ _ | .bbr4 _ _ | .bbr5 _ _ | .bbr6 _ _ | .bbr7 _ _
  | .bbs0 _ _ | .bbs1 _ _ | .bbs2 _ _ | .bbs3 _ _ | .bbs4 _ _ | .bbs5 _ _ | .bbs6 _ _ | .bbs7 _ _ => true
  | .jmp _ | .jsr _ | .rts | .brk | .rti => true
  | .pha | .php | .phx | .phy | .pla | .plp | .plx | .ply => true
  | .tax | .tay | .txa | .tya | .tsx | .txs => true
  | .clc | .sec | .cli | .sei | .cld | .sed | .clv | .nop => true

/-- The bus addresses of every window of a configuration, as numbers (R8, R45). -/
def Config.windowAddresses (c : Config) : List Nat :=
  (if c.diskAttached then (List.range 8).map (c.diskBase.toNat + ·) else []) ++
  (if c.viaPresent then (List.range 16).map (c.viaBase.toNat + ·) else []) ++
  [c.serialOut.toNat, c.serialIn.toNat, c.serialReady.toNat] ++ c.nullWindows.map BitVec.toNat

/-- R8: the windows lie inside 0x0000-0xFFFF and are pairwise disjoint; with R7's types: `DISK_BASE` is a multiple of 8,
`VIA_BASE` of 16, `SERIAL_READY_VALUE` is nonzero, and `CYCLES` gives every opcode a count. -/
def Config.wf (c : Config) : Bool :=
  c.windowAddresses.all (· < 65536) && decide c.windowAddresses.Nodup &&
  c.diskBase.toNat % 8 == 0 && c.viaBase.toNat % 16 == 0 && c.serialReadyValue != 0 && c.cycles.length == 256

/-- R8, R9: the image length the configuration admits. -/
def romWf (rom : List Byte) : Bool := 1 ≤ rom.length && rom.length ≤ 65536

end Sys2Proof
end

