-- ==== Sys2Proof/Decode.lean ====
section
/-! DEFINITION. The decoder (spec 30_encoding.md R70-R78), total on every byte, and the encoder from the same opcode map. -/

namespace Sys2Proof

/-- The 16-bit value `h:l` (R9, R46, R72). -/
def word (h l : Byte) : Addr := h ++ l

/-- The high byte of a 16-bit value. -/
def hiByte (w : Addr) : Byte := w.extractLsb' 8 8

/-- The low byte of a 16-bit value. -/
def loByte (w : Addr) : Byte := w.extractLsb' 0 8

/-- How many operand bytes a memory operand has (R71). -/
def Address.bytes : Address → Nat
  | .zp _ | .zpx _ | .zpy _ | .izx _ | .izy _ | .izp _ => 1
  | .abs _ | .absx _ | .absy _ => 2

/-- How many operand bytes a source operand has (R71, R93). -/
def Source.bytes : Source → Nat
  | .imm _ => 1
  | .mem a => a.bytes

/-- How many operand bytes a read-modify-write operand has (R71, R92). -/
def Target.bytes : Target → Nat
  | .acc => 0
  | .mem a => a.bytes

/-- How many bytes at PC+1, PC+2 the operand resolver reads (R90 step 3, R106): none for IMP, ACC, BRK (R175) and the
undefined NOPs (R202-R204). -/
def Instr.operandReads : Instr → Nat
  | .lda s | .ldx s | .ldy s | .adc s | .sbc s | .cmp s | .cpx s | .cpy s | .and s | .ora s | .eor s | .bit s => s.bytes
  | .sta d | .stx d | .sty d | .stz d | .trb d | .tsb d => d.bytes
  | .inc d | .dec d | .asl d | .lsr d | .rol d | .ror d => d.bytes
  | .rmb0 _ | .rmb1 _ | .rmb2 _ | .rmb3 _ | .rmb4 _ | .rmb5 _ | .rmb6 _ | .rmb7 _
  | .smb0 _ | .smb1 _ | .smb2 _ | .smb3 _ | .smb4 _ | .smb5 _ | .smb6 _ | .smb7 _ => 1
  | .bcc _ | .bcs _ | .beq _ | .bne _ | .bmi _ | .bpl _ | .bvc _ | .bvs _ | .bra _ => 1
  | .bbr0 _ _ | .bbr1 _ _ | .bbr2 _ _ | .bbr3 _ _ | .bbr4 _ _ | .bbr5 _ _ | .bbr6 _ _ | .bbr7 _ _
  | .bbs0 _ _ | .bbs1 _ _ | .bbs2 _ _ | .bbs3 _ _ | .bbs4 _ _ | .bbs5 _ _ | .bbs6 _ _ | .bbs7 _ _ => 2
  | .jmp _ | .jsr _ => 2
  | .rts | .brk | .rti | .inx | .iny | .dex | .dey => 0
  | .pha | .php | .phx | .phy | .pla | .plp | .plx | .ply => 0
  | .tax | .tay | .txa | .tya | .tsx | .txs => 0
  | .clc | .sec | .cli | .sei | .cld | .sed | .clv | .nop | .wai | .stp => 0
  | .nop1 _ | .nop2 _ | .nop3 _ => 0

/-- The length in bytes (R71, R78): the opcode and its operand bytes; BRK is 2 long, and NOP2 and NOP3 have 1 and 2 ignored bytes. -/
def Instr.length (i : Instr) : Nat :=
  match i with
  | .brk | .nop2 _ => 2
  | .nop3 _ => 3
  | .lda _ | .ldx _ | .ldy _ | .sta _ | .stx _ | .sty _ | .stz _ | .adc _ | .sbc _ | .cmp _ | .cpx _ | .cpy _ | .inc _
  | .dec _ | .inx | .iny | .dex | .dey | .and _ | .ora _ | .eor _ | .bit _ | .trb _ | .tsb _ | .rmb0 _ | .rmb1 _
  | .rmb2 _ | .rmb3 _ | .rmb4 _ | .rmb5 _ | .rmb6 _ | .rmb7 _ | .smb0 _ | .smb1 _ | .smb2 _ | .smb3 _ | .smb4 _
  | .smb5 _ | .smb6 _ | .smb7 _ | .asl _ | .lsr _ | .rol _ | .ror _ | .bcc _ | .bcs _ | .beq _ | .bne _ | .bmi _
  | .bpl _ | .bvc _ | .bvs _ | .bra _ | .bbr0 _ _ | .bbr1 _ _ | .bbr2 _ _ | .bbr3 _ _ | .bbr4 _ _ | .bbr5 _ _
  | .bbr6 _ _ | .bbr7 _ _ | .bbs0 _ _ | .bbs1 _ _ | .bbs2 _ _ | .bbs3 _ _ | .bbs4 _ _ | .bbs5 _ _ | .bbs6 _ _
  | .bbs7 _ _ | .jmp _ | .jsr _ | .rts | .rti | .pha | .php | .phx | .phy | .pla | .plp | .plx | .ply | .tax | .tay
  | .txa | .tya | .tsx | .txs | .clc | .sec | .cli | .sei | .cld | .sed | .clv | .nop | .nop1 _ | .wai | .stp => 1 + i.operandReads

/-- Row `hi` of the opcode map (R74), `hi` the opcode's high nibble, in column order: `op` is the opcode byte, `b1` and `b2`
the bytes after it. -/
def decodeRow (op b1 b2 : Byte) (hi : Nat) : List Instr :=
  match hi with
  | 0x0 => [.brk, .ora (.mem (.izx b1)), .nop2 op, .nop1 op, .tsb (.zp b1), .ora (.mem (.zp b1)), .asl (.mem (.zp b1)), .rmb0 b1,
      .php, .ora (.imm b1), .asl .acc, .nop1 op, .tsb (.abs (word b2 b1)), .ora (.mem (.abs (word b2 b1))), .asl (.mem (.abs (word b2 b1))), .bbr0 b1 b2]
  | 0x1 => [.bpl b1, .ora (.mem (.izy b1)), .ora (.mem (.izp b1)), .nop1 op, .trb (.zp b1), .ora (.mem (.zpx b1)), .asl (.mem (.zpx b1)), .rmb1 b1,
      .clc, .ora (.mem (.absy (word b2 b1))), .inc .acc, .nop1 op, .trb (.abs (word b2 b1)), .ora (.mem (.absx (word b2 b1))), .asl (.mem (.absx (word b2 b1))), .bbr1 b1 b2]
  | 0x2 => [.jsr (word b2 b1), .and (.mem (.izx b1)), .nop2 op, .nop1 op, .bit (.mem (.zp b1)), .and (.mem (.zp b1)), .rol (.mem (.zp b1)), .rmb2 b1,
      .plp, .and (.imm b1), .rol .acc, .nop1 op, .bit (.mem (.abs (word b2 b1))), .and (.mem (.abs (word b2 b1))), .rol (.mem (.abs (word b2 b1))), .bbr2 b1 b2]
  | 0x3 => [.bmi b1, .and (.mem (.izy b1)), .and (.mem (.izp b1)), .nop1 op, .bit (.mem (.zpx b1)), .and (.mem (.zpx b1)), .rol (.mem (.zpx b1)), .rmb3 b1,
      .sec, .and (.mem (.absy (word b2 b1))), .dec .acc, .nop1 op, .bit (.mem (.absx (word b2 b1))), .and (.mem (.absx (word b2 b1))), .rol (.mem (.absx (word b2 b1))), .bbr3 b1 b2]
  | 0x4 => [.rti, .eor (.mem (.izx b1)), .nop2 op, .nop1 op, .nop2 op, .eor (.mem (.zp b1)), .lsr (.mem (.zp b1)), .rmb4 b1,
      .pha, .eor (.imm b1), .lsr .acc, .nop1 op, .jmp (.abs (word b2 b1)), .eor (.mem (.abs (word b2 b1))), .lsr (.mem (.abs (word b2 b1))), .bbr4 b1 b2]
  | 0x5 => [.bvc b1, .eor (.mem (.izy b1)), .eor (.mem (.izp b1)), .nop1 op, .nop2 op, .eor (.mem (.zpx b1)), .lsr (.mem (.zpx b1)), .rmb5 b1,
      .cli, .eor (.mem (.absy (word b2 b1))), .phy, .nop1 op, .nop3 op, .eor (.mem (.absx (word b2 b1))), .lsr (.mem (.absx (word b2 b1))), .bbr5 b1 b2]
  | 0x6 => [.rts, .adc (.mem (.izx b1)), .nop2 op, .nop1 op, .stz (.zp b1), .adc (.mem (.zp b1)), .ror (.mem (.zp b1)), .rmb6 b1,
      .pla, .adc (.imm b1), .ror .acc, .nop1 op, .jmp (.ind (word b2 b1)), .adc (.mem (.abs (word b2 b1))), .ror (.mem (.abs (word b2 b1))), .bbr6 b1 b2]
  | 0x7 => [.bvs b1, .adc (.mem (.izy b1)), .adc (.mem (.izp b1)), .nop1 op, .stz (.zpx b1), .adc (.mem (.zpx b1)), .ror (.mem (.zpx b1)), .rmb7 b1,
      .sei, .adc (.mem (.absy (word b2 b1))), .ply, .nop1 op, .jmp (.aix (word b2 b1)), .adc (.mem (.absx (word b2 b1))), .ror (.mem (.absx (word b2 b1))), .bbr7 b1 b2]
  | 0x8 => [.bra b1, .sta (.izx b1), .nop2 op, .nop1 op, .sty (.zp b1), .sta (.zp b1), .stx (.zp b1), .smb0 b1,
      .dey, .bit (.imm b1), .txa, .nop1 op, .sty (.abs (word b2 b1)), .sta (.abs (word b2 b1)), .stx (.abs (word b2 b1)), .bbs0 b1 b2]
  | 0x9 => [.bcc b1, .sta (.izy b1), .sta (.izp b1), .nop1 op, .sty (.zpx b1), .sta (.zpx b1), .stx (.zpy b1), .smb1 b1,
      .tya, .sta (.absy (word b2 b1)), .txs, .nop1 op, .stz (.abs (word b2 b1)), .sta (.absx (word b2 b1)), .stz (.absx (word b2 b1)), .bbs1 b1 b2]
  | 0xa => [.ldy (.imm b1), .lda (.mem (.izx b1)), .ldx (.imm b1), .nop1 op, .ldy (.mem (.zp b1)), .lda (.mem (.zp b1)), .ldx (.mem (.zp b1)), .smb2 b1,
      .tay, .lda (.imm b1), .tax, .nop1 op, .ldy (.mem (.abs (word b2 b1))), .lda (.mem (.abs (word b2 b1))), .ldx (.mem (.abs (word b2 b1))), .bbs2 b1 b2]
  | 0xb => [.bcs b1, .lda (.mem (.izy b1)), .lda (.mem (.izp b1)), .nop1 op, .ldy (.mem (.zpx b1)), .lda (.mem (.zpx b1)), .ldx (.mem (.zpy b1)), .smb3 b1,
      .clv, .lda (.mem (.absy (word b2 b1))), .tsx, .nop1 op, .ldy (.mem (.absx (word b2 b1))), .lda (.mem (.absx (word b2 b1))), .ldx (.mem (.absy (word b2 b1))), .bbs3 b1 b2]
  | 0xc => [.cpy (.imm b1), .cmp (.mem (.izx b1)), .nop2 op, .nop1 op, .cpy (.mem (.zp b1)), .cmp (.mem (.zp b1)), .dec (.mem (.zp b1)), .smb4 b1,
      .iny, .cmp (.imm b1), .dex, .wai, .cpy (.mem (.abs (word b2 b1))), .cmp (.mem (.abs (word b2 b1))), .dec (.mem (.abs (word b2 b1))), .bbs4 b1 b2]
  | 0xd => [.bne b1, .cmp (.mem (.izy b1)), .cmp (.mem (.izp b1)), .nop1 op, .nop2 op, .cmp (.mem (.zpx b1)), .dec (.mem (.zpx b1)), .smb5 b1,
      .cld, .cmp (.mem (.absy (word b2 b1))), .phx, .stp, .nop3 op, .cmp (.mem (.absx (word b2 b1))), .dec (.mem (.absx (word b2 b1))), .bbs5 b1 b2]
  | 0xe => [.cpx (.imm b1), .sbc (.mem (.izx b1)), .nop2 op, .nop1 op, .cpx (.mem (.zp b1)), .sbc (.mem (.zp b1)), .inc (.mem (.zp b1)), .smb6 b1,
      .inx, .sbc (.imm b1), .nop, .nop1 op, .cpx (.mem (.abs (word b2 b1))), .sbc (.mem (.abs (word b2 b1))), .inc (.mem (.abs (word b2 b1))), .bbs6 b1 b2]
  | _ => [.beq b1, .sbc (.mem (.izy b1)), .sbc (.mem (.izp b1)), .nop1 op, .nop2 op, .sbc (.mem (.zpx b1)), .inc (.mem (.zpx b1)), .smb7 b1,
      .sed, .sbc (.mem (.absy (word b2 b1))), .plx, .nop1 op, .nop3 op, .sbc (.mem (.absx (word b2 b1))), .inc (.mem (.absx (word b2 b1))), .bbs7 b1 b2]

/-- R77: what an unnamed opcode is when `WDC_UNNAMED_EXT` is false; `none` for every other opcode. -/
def unnamedFallback (op : Byte) : Option Instr :=
  if unnamed1Opcodes.contains op then some (.nop1 op)
  else if unnamed2Opcodes.contains op then some (.nop2 op)
  else if unnamed3Opcodes.contains op then some (.nop3 op)
  else none

/-- The opcode map (R74): every opcode byte is an instruction. -/
def decodeMap (op b1 b2 : Byte) : Instr :=
  (decodeRow op b1 b2 (op.toNat / 16)).getD (op.toNat % 16) (.nop1 op)

/-- The decoder (R74, R77, R78): the instruction of opcode `op` followed by the bytes `b1`, `b2`, under the setting `ext` of
`WDC_UNNAMED_EXT`. A byte that the instruction's form does not read is ignored. -/
def decodeBytes (ext : Bool) (op b1 b2 : Byte) : Instr :=
  if ext then decodeMap op b1 b2 else (unnamedFallback op).getD (decodeMap op b1 b2)

/-- How many operand bytes opcode `op` has the resolver read: it depends on the opcode byte alone (R78). -/
def operandReadsOf (ext : Bool) (op : Byte) : Nat := (decodeBytes ext op 0 0).operandReads

/-- Why a list of bytes holds no instruction: it ends inside one. No byte value is refused (R78). -/
inductive DecodeError where
  | noBytes
  | truncated
  deriving DecidableEq, Repr

/-- The instruction at the head of a list of bytes, with the rest of the list. -/
def decode (ext : Bool) : List Byte → Except DecodeError (Instr × List Byte)
  | [] => .error .noBytes
  | op :: rest =>
    let i := decodeBytes ext op (rest.getD 0 0) (rest.getD 1 0)
    if rest.length + 1 < i.length then .error .truncated else .ok (i, rest.drop (i.length - 1))

/-- The opcode byte of an instruction (the `match` field of its row); `none` where the map gives its operand form no opcode. -/
def Instr.opcode : Instr → Option Byte
  | .lda (.mem (.izx _)) => some 0xA1
  | .lda (.mem (.zp _)) => some 0xA5
  | .lda (.imm _) => some 0xA9
  | .lda (.mem (.abs _)) => some 0xAD
  | .lda (.mem (.izy _)) => some 0xB1
  | .lda (.mem (.izp _)) => some 0xB2
  | .lda (.mem (.zpx _)) => some 0xB5
  | .lda (.mem (.absy _)) => some 0xB9
  | .lda (.mem (.absx _)) => some 0xBD
  | .lda _ => none
  | .ldx (.imm _) => some 0xA2
  | .ldx (.mem (.zp _)) => some 0xA6
  | .ldx (.mem (.abs _)) => some 0xAE
  | .ldx (.mem (.zpy _)) => some 0xB6
  | .ldx (.mem (.absy _)) => some 0xBE
  | .ldx _ => none
  | .ldy (.imm _) => some 0xA0
  | .ldy (.mem (.zp _)) => some 0xA4
  | .ldy (.mem (.abs _)) => some 0xAC
  | .ldy (.mem (.zpx _)) => some 0xB4
  | .ldy (.mem (.absx _)) => some 0xBC
  | .ldy _ => none
  | .sta (.izx _) => some 0x81
  | .sta (.zp _) => some 0x85
  | .sta (.abs _) => some 0x8D
  | .sta (.izy _) => some 0x91
  | .sta (.izp _) => some 0x92
  | .sta (.zpx _) => some 0x95
  | .sta (.absy _) => some 0x99
  | .sta (.absx _) => some 0x9D
  | .sta _ => none
  | .stx (.zp _) => some 0x86
  | .stx (.abs _) => some 0x8E
  | .stx (.zpy _) => some 0x96
  | .stx _ => none
  | .sty (.zp _) => some 0x84
  | .sty (.abs _) => some 0x8C
  | .sty (.zpx _) => some 0x94
  | .sty _ => none
  | .stz (.zp _) => some 0x64
  | .stz (.zpx _) => some 0x74
  | .stz (.abs _) => some 0x9C
  | .stz (.absx _) => some 0x9E
  | .stz _ => none
  | .adc (.mem (.izx _)) => some 0x61
  | .adc (.mem (.zp _)) => some 0x65
  | .adc (.imm _) => some 0x69
  | .adc (.mem (.abs _)) => some 0x6D
  | .adc (.mem (.izy _)) => some 0x71
  | .adc (.mem (.izp _)) => some 0x72
  | .adc (.mem (.zpx _)) => some 0x75
  | .adc (.mem (.absy _)) => some 0x79
  | .adc (.mem (.absx _)) => some 0x7D
  | .adc _ => none
  | .sbc (.mem (.izx _)) => some 0xE1
  | .sbc (.mem (.zp _)) => some 0xE5
  | .sbc (.imm _) => some 0xE9
  | .sbc (.mem (.abs _)) => some 0xED
  | .sbc (.mem (.izy _)) => some 0xF1
  | .sbc (.mem (.izp _)) => some 0xF2
  | .sbc (.mem (.zpx _)) => some 0xF5
  | .sbc (.mem (.absy _)) => some 0xF9
  | .sbc (.mem (.absx _)) => some 0xFD
  | .sbc _ => none
  | .cmp (.mem (.izx _)) => some 0xC1
  | .cmp (.mem (.zp _)) => some 0xC5
  | .cmp (.imm _) => some 0xC9
  | .cmp (.mem (.abs _)) => some 0xCD
  | .cmp (.mem (.izy _)) => some 0xD1
  | .cmp (.mem (.izp _)) => some 0xD2
  | .cmp (.mem (.zpx _)) => some 0xD5
  | .cmp (.mem (.absy _)) => some 0xD9
  | .cmp (.mem (.absx _)) => some 0xDD
  | .cmp _ => none
  | .cpx (.imm _) => some 0xE0
  | .cpx (.mem (.zp _)) => some 0xE4
  | .cpx (.mem (.abs _)) => some 0xEC
  | .cpx _ => none
  | .cpy (.imm _) => some 0xC0
  | .cpy (.mem (.zp _)) => some 0xC4
  | .cpy (.mem (.abs _)) => some 0xCC
  | .cpy _ => none
  | .inc .acc => some 0x1A
  | .inc (.mem (.zp _)) => some 0xE6
  | .inc (.mem (.abs _)) => some 0xEE
  | .inc (.mem (.zpx _)) => some 0xF6
  | .inc (.mem (.absx _)) => some 0xFE
  | .inc _ => none
  | .dec .acc => some 0x3A
  | .dec (.mem (.zp _)) => some 0xC6
  | .dec (.mem (.abs _)) => some 0xCE
  | .dec (.mem (.zpx _)) => some 0xD6
  | .dec (.mem (.absx _)) => some 0xDE
  | .dec _ => none
  | .and (.mem (.izx _)) => some 0x21
  | .and (.mem (.zp _)) => some 0x25
  | .and (.imm _) => some 0x29
  | .and (.mem (.abs _)) => some 0x2D
  | .and (.mem (.izy _)) => some 0x31
  | .and (.mem (.izp _)) => some 0x32
  | .and (.mem (.zpx _)) => some 0x35
  | .and (.mem (.absy _)) => some 0x39
  | .and (.mem (.absx _)) => some 0x3D
  | .and _ => none
  | .ora (.mem (.izx _)) => some 0x01
  | .ora (.mem (.zp _)) => some 0x05
  | .ora (.imm _) => some 0x09
  | .ora (.mem (.abs _)) => some 0x0D
  | .ora (.mem (.izy _)) => some 0x11
  | .ora (.mem (.izp _)) => some 0x12
  | .ora (.mem (.zpx _)) => some 0x15
  | .ora (.mem (.absy _)) => some 0x19
  | .ora (.mem (.absx _)) => some 0x1D
  | .ora _ => none
  | .eor (.mem (.izx _)) => some 0x41
  | .eor (.mem (.zp _)) => some 0x45
  | .eor (.imm _) => some 0x49
  | .eor (.mem (.abs _)) => some 0x4D
  | .eor (.mem (.izy _)) => some 0x51
  | .eor (.mem (.izp _)) => some 0x52
  | .eor (.mem (.zpx _)) => some 0x55
  | .eor (.mem (.absy _)) => some 0x59
  | .eor (.mem (.absx _)) => some 0x5D
  | .eor _ => none
  | .bit (.mem (.zp _)) => some 0x24
  | .bit (.mem (.abs _)) => some 0x2C
  | .bit (.mem (.zpx _)) => some 0x34
  | .bit (.mem (.absx _)) => some 0x3C
  | .bit (.imm _) => some 0x89
  | .bit _ => none
  | .trb (.zp _) => some 0x14
  | .trb (.abs _) => some 0x1C
  | .trb _ => none
  | .tsb (.zp _) => some 0x04
  | .tsb (.abs _) => some 0x0C
  | .tsb _ => none
  | .asl (.mem (.zp _)) => some 0x06
  | .asl .acc => some 0x0A
  | .asl (.mem (.abs _)) => some 0x0E
  | .asl (.mem (.zpx _)) => some 0x16
  | .asl (.mem (.absx _)) => some 0x1E
  | .asl _ => none
  | .lsr (.mem (.zp _)) => some 0x46
  | .lsr .acc => some 0x4A
  | .lsr (.mem (.abs _)) => some 0x4E
  | .lsr (.mem (.zpx _)) => some 0x56
  | .lsr (.mem (.absx _)) => some 0x5E
  | .lsr _ => none
  | .rol (.mem (.zp _)) => some 0x26
  | .rol .acc => some 0x2A
  | .rol (.mem (.abs _)) => some 0x2E
  | .rol (.mem (.zpx _)) => some 0x36
  | .rol (.mem (.absx _)) => some 0x3E
  | .rol _ => none
  | .ror (.mem (.zp _)) => some 0x66
  | .ror .acc => some 0x6A
  | .ror (.mem (.abs _)) => some 0x6E
  | .ror (.mem (.zpx _)) => some 0x76
  | .ror (.mem (.absx _)) => some 0x7E
  | .ror _ => none
  | .jmp (.abs _) => some 0x4C
  | .jmp (.ind _) => some 0x6C
  | .jmp (.aix _) => some 0x7C
  | .brk => some 0x00
  | .rmb0 _ => some 0x07
  | .php => some 0x08
  | .bbr0 _ _ => some 0x0F
  | .bpl _ => some 0x10
  | .rmb1 _ => some 0x17
  | .clc => some 0x18
  | .bbr1 _ _ => some 0x1F
  | .jsr _ => some 0x20
  | .rmb2 _ => some 0x27
  | .plp => some 0x28
  | .bbr2 _ _ => some 0x2F
  | .bmi _ => some 0x30
  | .rmb3 _ => some 0x37
  | .sec => some 0x38
  | .bbr3 _ _ => some 0x3F
  | .rti => some 0x40
  | .rmb4 _ => some 0x47
  | .pha => some 0x48
  | .bbr4 _ _ => some 0x4F
  | .bvc _ => some 0x50
  | .rmb5 _ => some 0x57
  | .cli => some 0x58
  | .phy => some 0x5A
  | .bbr5 _ _ => some 0x5F
  | .rts => some 0x60
  | .rmb6 _ => some 0x67
  | .pla => some 0x68
  | .bbr6 _ _ => some 0x6F
  | .bvs _ => some 0x70
  | .rmb7 _ => some 0x77
  | .sei => some 0x78
  | .ply => some 0x7A
  | .bbr7 _ _ => some 0x7F
  | .bra _ => some 0x80
  | .smb0 _ => some 0x87
  | .dey => some 0x88
  | .txa => some 0x8A
  | .bbs0 _ _ => some 0x8F
  | .bcc _ => some 0x90
  | .smb1 _ => some 0x97
  | .tya => some 0x98
  | .txs => some 0x9A
  | .bbs1 _ _ => some 0x9F
  | .smb2 _ => some 0xA7
  | .tay => some 0xA8
  | .tax => some 0xAA
  | .bbs2 _ _ => some 0xAF
  | .bcs _ => some 0xB0
  | .smb3 _ => some 0xB7
  | .clv => some 0xB8
  | .tsx => some 0xBA
  | .bbs3 _ _ => some 0xBF
  | .smb4 _ => some 0xC7
  | .iny => some 0xC8
  | .dex => some 0xCA
  | .wai => some 0xCB
  | .bbs4 _ _ => some 0xCF
  | .bne _ => some 0xD0
  | .smb5 _ => some 0xD7
  | .cld => some 0xD8
  | .phx => some 0xDA
  | .stp => some 0xDB
  | .bbs5 _ _ => some 0xDF
  | .smb6 _ => some 0xE7
  | .inx => some 0xE8
  | .nop => some 0xEA
  | .bbs6 _ _ => some 0xEF
  | .beq _ => some 0xF0
  | .smb7 _ => some 0xF7
  | .sed => some 0xF8
  | .plx => some 0xFA
  | .bbs7 _ _ => some 0xFF
  | .nop1 op | .nop2 op | .nop3 op => some op

/-- A memory operand's bytes, low byte first (R71, R72). -/
def Address.encode : Address → List Byte
  | .zp z | .zpx z | .zpy z | .izx z | .izy z | .izp z => [z]
  | .abs w | .absx w | .absy w => [loByte w, hiByte w]

/-- A source operand's bytes. -/
def Source.encode : Source → List Byte
  | .imm v => [v]
  | .mem a => a.encode

/-- A read-modify-write operand's bytes. -/
def Target.encode : Target → List Byte
  | .acc => []
  | .mem a => a.encode

/-- The bytes after the opcode, 0x00 for those the decoder ignores (R71). -/
def Instr.operandBytes : Instr → List Byte
  | .lda s | .ldx s | .ldy s | .adc s | .sbc s | .cmp s | .cpx s | .cpy s | .and s | .ora s | .eor s | .bit s => s.encode
  | .sta d | .stx d | .sty d | .stz d | .trb d | .tsb d => d.encode
  | .inc d | .dec d | .asl d | .lsr d | .rol d | .ror d => d.encode
  | .rmb0 z | .rmb1 z | .rmb2 z | .rmb3 z | .rmb4 z | .rmb5 z | .rmb6 z | .rmb7 z
  | .smb0 z | .smb1 z | .smb2 z | .smb3 z | .smb4 z | .smb5 z | .smb6 z | .smb7 z => [z]
  | .bcc r | .bcs r | .beq r | .bne r | .bmi r | .bpl r | .bvc r | .bvs r | .bra r => [r]
  | .bbr0 z r | .bbr1 z r | .bbr2 z r | .bbr3 z r | .bbr4 z r | .bbr5 z r | .bbr6 z r | .bbr7 z r
  | .bbs0 z r | .bbs1 z r | .bbs2 z r | .bbs3 z r | .bbs4 z r | .bbs5 z r | .bbs6 z r | .bbs7 z r => [z, r]
  | .jmp (.abs w) | .jmp (.ind w) | .jmp (.aix w) | .jsr w => [loByte w, hiByte w]
  | .brk | .nop2 _ => [0x00]
  | .nop3 _ => [0x00, 0x00]
  | .rts | .rti | .inx | .iny | .dex | .dey => []
  | .pha | .php | .phx | .phy | .pla | .plp | .plx | .ply => []
  | .tax | .tay | .txa | .tya | .tsx | .txs => []
  | .clc | .sec | .cli | .sei | .cld | .sed | .clv | .nop | .wai | .stp | .nop1 _ => []

/-- The bytes of an instruction; `none` where its operand form has no opcode. -/
def encode (i : Instr) : Option (List Byte) := i.opcode.map (· :: i.operandBytes)

/-- The instruction read from an instruction word of spec/opcode_table.json: byte 0 is bits 7:0 of `w`, byte 1 bits 15:8, byte 2
bits 23:16, every bit from `nbits` on being 0. The setting of `WDC_UNNAMED_EXT` is the default, true (R7). -/
def decodeTableWord (nbits w : Nat) : Option Instr :=
  let v := w % 2 ^ nbits
  match decode true [BitVec.ofNat 8 v, BitVec.ofNat 8 (v / 256), BitVec.ofNat 8 (v / 65536)] with
  | .ok (i, _) => some i
  | .error _ => none

end Sys2Proof
end

