-- ==== Sys2Proof/Machine/Timer.lean ====
section
/-! DEFINITION. The timer / interrupt controller (spec 60_exceptions.md R233-R243). -/

namespace Sys2Proof.Machine

/-- Whether an enabled flag is set (R236, R238, R241). -/
def Timer.anyEnabled (t : Timer) : Bool := (t.ifr &&& t.ier &&& 0x60) != 0

/-- Recompute `asserted` from the flags and enables. -/
def Timer.recompute (t : Timer) : Timer := { t with asserted := t.anyEnabled }

/-- Clear the interrupt condition: every read and write of the flag register does so (R238). -/
def Timer.clearFlags (t : Timer) : Timer := { t with ifr := 0, asserted := false }

/-- The value a read of the flag register returns (R238). -/
def Timer.ifrValue (t : Timer) : Byte := (t.ifr &&& 0x60) ||| (if t.anyEnabled then 0x80 else 0x00)

/-- A write of the enable register: bit 7 says whether the written bits are set or cleared (R239). -/
def Timer.writeIer (t : Timer) (v : Byte) : Timer :=
  { t with ier := if v.getLsbD 7 then t.ier ||| (v &&& 0x60) else t.ier &&& ~~~(v &&& 0x60) }

/-- A write of T1C-H: latch high, load and start the counter, clear the timer 1 flag (R236). -/
def Timer.startT1 (t : Timer) (v : Byte) : Timer :=
  let l := word v (loByte t.t1l)
  Timer.recompute { t with t1l := l, t1c := l, t1run := true, ifr := t.ifr &&& ~~~0x40 }

/-- A write of T2C-H: latch high, load and start the counter, clear the timer 2 flag (R236). -/
def Timer.startT2 (t : Timer) (v : Byte) : Timer :=
  let l := word v (loByte t.t2l)
  Timer.recompute { t with t2l := l, t2c := l, t2run := true, ifr := t.ifr &&& ~~~0x20 }

/-- Timer 1's part of a tick (R241). -/
def Timer.tickT1 (t : Timer) : Timer :=
  if t.t1run then
    let n := t.t1c - 1
    if n = 0 then
      { t with
        ifr := if t.ier.getLsbD 6 then t.ifr ||| 0x40 else t.ifr
        t1c := if t.acr.getLsbD 6 then t.t1l else n
        t1run := t.acr.getLsbD 6 }
    else { t with t1c := n }
  else t

/-- Timer 2's part of a tick (R241): it never reloads itself. -/
def Timer.tickT2 (t : Timer) : Timer :=
  if t.t2run then
    let n := t.t2c - 1
    if n = 0 then { t with ifr := if t.ier.getLsbD 5 then t.ifr ||| 0x20 else t.ifr, t2c := n, t2run := false }
    else { t with t2c := n }
  else t

/-- One tick (R241). -/
def Timer.tick (t : Timer) : Timer := t.tickT1.tickT2.recompute

/-- A read of timer register `n` (R234, R237-R240, R243). -/
def timerRead (n : Nat) (s : State) : Res Byte :=
  match n with
  | 0x4 => .ok (loByte s.timer.t1c) s
  | 0x5 => .ok (hiByte s.timer.t1c) s
  | 0x6 => .ok (loByte s.timer.t1l) s
  | 0x7 => .ok (hiByte s.timer.t1l) s
  | 0x8 => .ok (loByte s.timer.t2c) s
  | 0x9 => .ok (hiByte s.timer.t2c) s
  | 0xB => .ok s.timer.acr s
  | 0xC => .ok s.timer.pcr s
  | 0xD => .ok s.timer.ifrValue { s with timer := s.timer.clearFlags }
  | 0xE => .ok (s.timer.ier ||| 0x80) s
  | _ => drawByte s

/-- The timer after a write of register `n` (R234-R236, R238-R240, R243). -/
def Timer.write (n : Nat) (v : Byte) (t : Timer) : Timer :=
  match n with
  | 0x4 | 0x6 => { t with t1l := word (hiByte t.t1l) v }
  | 0x5 => t.startT1 v
  | 0x7 => { t with t1l := word v (loByte t.t1l) }
  | 0x8 => { t with t2l := word (hiByte t.t2l) v }
  | 0x9 => t.startT2 v
  | 0xB => { t with acr := v }
  | 0xC => { t with pcr := v }
  | 0xD => t.clearFlags
  | 0xE => t.writeIer v
  | _ => t

end Sys2Proof.Machine
end

