-- ==== Sys2Proof/Machine/Bus.lean ====
section
/-! DEFINITION. The bus (spec 20_memory.md R43-R48): the only way an instruction reaches memory or a device. -/

namespace Sys2Proof.Machine

/-- The disk window (R43, R45). -/
def inDisk (c : Config) (a : Addr) : Bool :=
  c.diskAttached && decide (c.diskBase.toNat ≤ a.toNat) && decide (a.toNat ≤ c.diskBase.toNat + 7)

/-- The VIA window (R43, R45). -/
def inVia (c : Config) (a : Addr) : Bool :=
  c.viaPresent && decide (c.viaBase.toNat ≤ a.toNat) && decide (a.toNat ≤ c.viaBase.toNat + 15)

/-- The null windows (R45, R253). -/
def inNull (c : Config) (a : Addr) : Bool := c.nullWindows.contains a

/-- An address in no window: plain flat storage. -/
def isPlain (c : Config) (a : Addr) : Bool :=
  !inDisk c a && !inVia c a && !inNull c a && a != c.serialOut && a != c.serialIn && a != c.serialReady

/-- The byte of flat storage at an address. -/
def State.byteAt (s : State) (a : Addr) : Byte := s.mem.get a.toNat

/-- Store a byte in flat storage. -/
def State.storeByte (s : State) (a : Addr) (v : Byte) : State := { s with mem := s.mem.set a.toNat v }

/-- Whether the receiver gets the `n`-th event emitted (R260, U25). -/
def Receiver.gets : Receiver → Nat → Bool
  | .kept, _ => true
  | .mayLeave, n => !Config.freeLoss n
  | .gone, _ => false

/-- Those of the events `es`, emitted from the `n`-th on, that the receiver gets, in order (R260). -/
def Receiver.arrivals (r : Receiver) : Nat → List EngineEvent → List EngineEvent
  | _, [] => []
  | n, e :: es => if r.gets n then e :: r.arrivals (n + 1) es else r.arrivals (n + 1) es

/-- Emit events in order (R259, R260): a send to a receiver that is gone is dropped, and the sender goes on. -/
def State.emitAll (s : State) (es : List EngineEvent) : State :=
  { s with events := s.events ++ es, delivered := s.delivered ++ s.receiver.arrivals s.events.length es }

/-- Emit an event (R259, R260). -/
def State.emit (s : State) (e : EngineEvent) : State := s.emitAll [e]

/-- A read of the serial input mailbox clears the data-ready flag (R250). -/
def serialReadIn (s : State) : Res Byte := .ok (s.byteAt s.cfg.serialIn) (s.storeByte s.cfg.serialReady 0x00)

/-- `MemRead(a, 1)` (R43). -/
def busRead (a : Addr) (s : State) : Res Byte :=
  if inDisk s.cfg a then diskRead (a &&& 7).toNat s
  else if a = s.cfg.serialIn then serialReadIn s
  else if a = s.cfg.serialOut ∨ a = s.cfg.serialReady then .ok (s.byteAt a) s
  else if inVia s.cfg a then timerRead (a &&& 15).toNat s
  else if inNull s.cfg a then .ok 0x00 s
  else .ok (s.byteAt a) s

/-- `MemWrite(a, 1, v)` (R44). -/
def busWrite (a : Addr) (v : Byte) (s : State) : Res Unit :=
  if inDisk s.cfg a then diskWrite (a &&& 7).toNat v s
  else if a = s.cfg.serialOut then .ok () ((s.storeByte a v).emit (.outputByte v))
  else if a = s.cfg.serialIn ∨ a = s.cfg.serialReady then .ok () (s.storeByte a v)
  else if inVia s.cfg a then .ok () { s with timer := s.timer.write (a &&& 15).toNat v }
  else if inNull s.cfg a then .ok () s
  else .ok () (s.storeByte a v)

/-- `MemRead16(a)`: low byte, then high byte at `a + 1` mod 2^16 (R47). -/
def busRead16 (a : Addr) (s : State) : Res Addr :=
  (busRead a s).bind fun lo s1 => (busRead (a + 1) s1).bind fun hi s2 => .ok (word hi lo) s2

/-- `zext_16` (R9). -/
def zext16 (b : Byte) : Addr := b.setWidth 16

/-- `sext_16` (R9). -/
def sext16 (b : Byte) : Addr := b.signExtend 16

/-- `MemRead16zp(p)`: the pointer's high byte wraps within the zero page (R48). -/
def busRead16zp (p : Byte) (s : State) : Res Addr :=
  (busRead (zext16 p) s).bind fun lo s1 => (busRead (zext16 (p + 1)) s1).bind fun hi s2 => .ok (word hi lo) s2

end Sys2Proof.Machine
end

