-- ==== Sys2Proof/Machine/Flags.lean ====
section
/-! DEFINITION. The status register's flags (spec 10_state.md R23-R31) and every flag computation: the flag helper (42 R120), the
binary and decimal adders (R121-R123), the comparison (R126), the bit test (43 R143) and the shifts (R148-R151). -/

namespace Sys2Proof.Machine

/-- The six flags of P (R24). -/
inductive Flag where
  | carry
  | zero
  | interrupt
  | decimal
  | overflow
  | negative
  deriving DecidableEq, Repr

/-- The bit of P that holds a flag (R24). -/
def Flag.bit : Flag → Nat
  | .carry => 0
  | .zero => 1
  | .interrupt => 2
  | .decimal => 3
  | .overflow => 6
  | .negative => 7

/-- The mask of a flag (R24). -/
def Flag.mask (f : Flag) : Byte := 1#8 <<< f.bit

/-- Read a flag of a status byte. -/
def getFlag (f : Flag) (p : Byte) : Bool := p.getLsbD f.bit

/-- A status byte with one flag written, every other bit as it was. -/
def putFlag (f : Flag) (b : Bool) (p : Byte) : Byte := if b then p ||| f.mask else p &&& ~~~f.mask

/-- The flag helper `setNZ` (R120): Z and N from the byte, bits 4 and 5 forced to 1. -/
def setNZ (v p : Byte) : Byte := putFlag .negative (v.getLsbD 7) (putFlag .zero (v == 0x00) p) ||| 0x30

/-- What an adder gives: the byte, the carry and the overflow. -/
structure AluResult where
  value    : Byte
  carry    : Bool
  overflow : Bool
  deriving DecidableEq, Repr

/-- The binary adder `addBin(a, m, c)` (R121): a 9-bit sum. -/
def addBin (a m : Byte) (c : Bool) : AluResult :=
  let s := a.toNat + m.toNat + c.toNat
  let r := BitVec.ofNat 8 s
  { value := r, carry := decide (s > 255), overflow := ((a ^^^ r) &&& (m ^^^ r) &&& 0x80) != 0 }

/-- The decimal adder `addDec(a, m, c)` (R122); the intermediate values are integers wider than 8 bits. -/
def addDec (a m : Byte) (c : Bool) : AluResult :=
  let like := ((a ^^^ m) &&& 0x80) == 0
  let low := (a.toNat &&& 0x0F) + (m.toNat &&& 0x0F) + c.toNat
  let low := if low ≥ 0x0A then 0x10 ||| ((low + 6) &&& 0x0F) else low
  let t := low + (a.toNat &&& 0xF0) + (m.toNat &&& 0xF0)
  if t ≥ 0xA0 then
    { value := BitVec.ofNat 8 (t + 0x60), carry := true, overflow := like && decide (t < 0x180) }
  else
    { value := BitVec.ofNat 8 t, carry := false, overflow := like && decide (t ≥ 0x80) }

/-- The decimal subtractor `subDec(a, m, c)` (R123); the intermediate values are signed integers. -/
def subDec (a m : Byte) (c : Bool) : AluResult :=
  let unlike := ((a ^^^ m) &&& 0x80) != 0
  let low : Int := 0x0F + ((a.toNat &&& 0x0F : Nat) : Int) - ((m.toNat &&& 0x0F : Nat) : Int) + (c.toNat : Int)
  let t : Int := if low < 0x10 then low - 6 else low - 0x10
  let w : Int := (if low < 0x10 then 0x00 else 0x10) + 0xF0 + ((a.toNat &&& 0xF0 : Nat) : Int) - ((m.toNat &&& 0xF0 : Nat) : Int)
  if w < 0x100 then
    { value := BitVec.ofInt 8 (w - 0x60 + t), carry := false, overflow := unlike && decide (w ≥ 0x80) }
  else
    { value := BitVec.ofInt 8 (w + t), carry := true, overflow := unlike && decide (w < 0x180) }

/-- The status byte after an addition or subtraction with V = `v` (R124, R125). -/
def aluFlags (r : AluResult) (v : Bool) (p : Byte) : Byte :=
  setNZ r.value (putFlag .overflow v (putFlag .carry r.carry p))

/-- The status byte after `compare(r, m)` (R126). -/
def compareFlags (setting : CmpFlags) (r m p : Byte) : Byte :=
  let n := match setting with
    | .exclusive => decide (r.toNat < m.toNat)
    | .silicon => (r - m).getLsbD 7
  putFlag .negative n (putFlag .carry (decide (m.toNat ≤ r.toNat)) (putFlag .zero (r == m) p))

/-- The status byte after BIT (R143); `copyNV` is false only for the immediate form under `BIT_IMM_FLAGS = wdc`. -/
def bitFlags (copyNV : Bool) (a m p : Byte) : Byte :=
  let q := putFlag .zero ((a &&& m) == 0x00) p
  if copyNV then putFlag .overflow (m.getLsbD 6) (putFlag .negative (m.getLsbD 7) q) else q

/-- The status byte after TRB and TSB (R144, R145): Z only. -/
def testFlags (a m p : Byte) : Byte := putFlag .zero ((a &&& m) == 0x00) p

/-- The status byte after a shift that moved out the bit `c` and gave `w` (R148-R151). -/
def shiftFlags (c : Bool) (w p : Byte) : Byte := setNZ w (putFlag .carry c p)

/-- ASL's byte (R148). -/
def aslByte (v : Byte) : Byte := v <<< 1

/-- LSR's byte (R149). -/
def lsrByte (v : Byte) : Byte := v >>> 1

/-- ROL's byte, `c` the prior Carry (R150). -/
def rolByte (c : Bool) (v : Byte) : Byte := (v <<< 1) ||| (if c then 0x01 else 0x00)

/-- ROR's byte, `c` the prior Carry (R151). -/
def rorByte (c : Bool) (v : Byte) : Byte := (v >>> 1) ||| (if c then 0x80 else 0x00)

/-- The mask of bit `n` of a memory byte (R146, R147). -/
def bitMask (n : Nat) : Byte := 1#8 <<< n

end Sys2Proof.Machine
end

