-- ==== Sys2Proof/Machine/Ops.lean ====
section
/-! DEFINITION. The named operations over registers, stack and status; taking an exception and returning from one; the end of the
instruction frame; reset (spec 10_state.md, 20_memory.md R51-R54, 40_addressing.md R90, 44_control.md R175-R176, 60_exceptions.md
R214, 70_reset_and_hazards.md R270-R271). -/

namespace Sys2Proof.Machine

/-- The three general registers (R20). -/
inductive Reg where
  | a
  | x
  | y
  deriving DecidableEq, Repr

/-- Read a general register. -/
def State.reg (s : State) : Reg → Byte
  | .a => s.a
  | .x => s.x
  | .y => s.y

/-- Write a general register. -/
def State.setReg (s : State) (r : Reg) (v : Byte) : State :=
  match r with
  | .a => { s with a := v }
  | .x => { s with x := v }
  | .y => { s with y := v }

/-- Read a flag of P. -/
def State.flag (s : State) (f : Flag) : Bool := getFlag f s.p

/-- Replace P. -/
def State.setP (s : State) (p : Byte) : State := { s with p := p }

/-- Write one flag of P, leaving bits 4 and 5 and every other flag (R31). -/
def State.setFlag (s : State) (f : Flag) (b : Bool) : State := s.setP (putFlag f b s.p)

/-- `r <- v; setNZ(r)`. -/
def State.setRegNZ (s : State) (r : Reg) (v : Byte) : State := (s.setReg r v).setP (setNZ v s.p)

/-- Write SP: from then on it holds a value (R22). -/
def State.setSp (s : State) (v : Byte) : State := { s with sp := v, spHeld := true }

/-- The stack address SP designates (R22, R51). -/
def stackAddr (sp : Byte) : Addr := word 0x01 sp

/-- Read SP; it faults while SP is `unwritten` (R22, R219). -/
def readSp (s : State) : Res Byte := if s.spHeld then .ok s.sp s else .fault .unwrittenSP

/-- `Push(v)` (R52): write, then decrement. -/
def push (v : Byte) (s : State) : Res Unit :=
  (readSp s).bind fun sp s1 => (busWrite (stackAddr sp) v s1).bind fun _ s2 => .ok () (s2.setSp (sp - 1))

/-- `Pull()` (R53): increment, then read. -/
def pull (s : State) : Res Byte :=
  (readSp s).bind fun sp s1 => busRead (stackAddr (sp + 1)) (s1.setSp (sp + 1))

/-- Push a 16-bit value, high byte first (R54). -/
def pushWord (w : Addr) (s : State) : Res Unit :=
  (push (hiByte w) s).bind fun _ s1 => push (loByte w) s1

/-- Pull a 16-bit value, low byte first (R54). -/
def pullWord (s : State) : Res Addr :=
  (pull s).bind fun lo s1 => (pull s1).bind fun hi s2 => .ok (word hi lo) s2

/-- Replace PC. -/
def State.setPc (s : State) (pc : Addr) : State := { s with pc := pc }

/-- The vector of BRK and of interrupt entry (R56). -/
def breakVector : Addr := 0xFFFE

/-- The reset vector (R56). -/
def resetVector : Addr := 0xFFFC

/-- Taking an exception: BRK (R175) and interrupt entry (R214) push the return address and a copy of P, set I (D unchanged), and
go to the word at 0xFFFE. -/
def enterException (ret : Addr) (pushedP : Byte) (s : State) : Res Unit :=
  (pushWord ret s).bind fun _ s1 =>
  (push pushedP s1).bind fun _ s2 =>
  (busRead16 breakVector (s2.setFlag .interrupt true)).bind fun target s3 =>
  .ok () (s3.setPc target)

/-- Return from an exception (R176): P verbatim, then the PC, low byte first. -/
def returnFromException (s : State) : Res Unit :=
  (pull s).bind fun p s1 => (pullWord (s1.setP p)).bind fun target s2 => .ok () (s2.setPc target)

/-- Add to the cycle clock, modulo 2 to the power `CLOCK_WIDTH` (R32). -/
def State.addCycles (s : State) (n : Nat) : State :=
  { s with cycleClock := (s.cycleClock + n) % 2 ^ s.cfg.clockWidth }

/-- `CYCLES[op]` (R7, R282). -/
def cyclesOf (c : Config) (op : Byte) : Nat := c.cycles.getD op.toNat 0

/-- Step 6 of the frame (R90): charge the cycles of the opcode fetched, which `currentInstruction` holds (log entry 10). -/
def State.charge (s : State) : State := s.addCycles (cyclesOf s.cfg s.currentInstruction)

/-- Steps 5 and 6 of the frame (R90) of an instruction that does not write PC: PC passes its `len` bytes. -/
def State.retire (len : Nat) (s : State) : State := (s.setPc (s.pc + BitVec.ofNat 16 len)).charge

/-- `currentInstruction <- op` (R90 step 1). -/
def State.latchOpcode (s : State) (op : Byte) : State := { s with currentInstruction := op }

/-- Write `cpuMode` (R205, R206, R210). -/
def State.setMode (s : State) (m : CpuMode) : State := { s with cpuMode := m }

/-- `stepRequest <- Idle`: the request is consumed (R210). -/
def State.clearRequest (s : State) : State := { s with stepRequest := .idle }

/-- The commands pending at the start of the next step (R258). -/
def State.pending (s : State) : List HostCommand := s.commands.headD []

/-- Take the pending commands off the queue (R258): those that arrive at later boundaries are then one step nearer. -/
def State.takeCommands (s : State) : State := { s with commands := s.commands.tail }

/-- The interrupt entry of R214: the return address is the PC itself, the pushed P has bit 4 clear and bit 5 set. -/
def interruptEntry (s : State) : Res Unit :=
  (enterException s.pc ((s.p &&& ~~~0x10) ||| 0x20) s).bind fun _ s1 => .ok () (s1.addCycles s1.cfg.irqCycles)

/-- The fields reset writes before it reads the vector (R270). -/
def State.resetFields (s : State) : State :=
  { s with
    a := 0x00, x := 0x00, y := 0x00, p := 0x30
    sp := s.cfg.spReset.getD 0x00, spHeld := s.cfg.spReset.isSome
    currentInstruction := 0x00, irqLine := false
    cpuMode := .executing, runState := .running, stepRequest := .idle
    disk := { s.disk with offset := 0, command := .none } }

/-- The reset sequence (R270). -/
def resetSequence (s : State) : Res Unit :=
  (busRead16 resetVector s.resetFields).bind fun target s1 => .ok () (s1.setPc target)

/-- The machine at construction (R37, R41, R222, R233), before reset. -/
def construct (cfg : Config) (rom diskImage : List Byte) : State :=
  { cfg := cfg, a := 0x00, x := 0x00, y := 0x00
    sp := cfg.spReset.getD 0x00, spHeld := cfg.spReset.isSome
    p := 0x30, pc := 0x0400, cycleClock := 0, currentInstruction := 0x00, irqLine := false
    runState := .running, stepRequest := .idle, cpuMode := .executing
    mem := Memory.ofRom rom
    disk := { lba0 := 0, lba1 := 0, lba2 := 0, lba3 := 0, offset := 0, command := .none, store := diskImage }
    timer := { t1c := 0, t1l := 0, t2c := 0, t2l := 0, t1run := false, t2run := false,
               ifr := 0, ier := 0, acr := 0, pcr := 0, asserted := false }
    logLevel := 0, commands := [], events := [], receiver := .mayLeave, delivered := [], drawCount := 0 }

/-- Power-on (R271): an ill-formed configuration is refused; else construction, then reset. -/
def powerOn (cfg : Config) (rom diskImage : List Byte) : Host.Outcome State Fault Refusal :=
  if cfg.wf && romWf rom then (resetSequence (construct cfg rom diskImage)).outcome id
  else .refused .badConfiguration

end Sys2Proof.Machine
end

