-- ==== Sys2Proof/Machine/Operands.lean ====
section
/-! DEFINITION. Every operand form: effective addresses, source operands, read-modify-write operands, jump and branch targets
(spec 40_addressing.md R91-R106). The operand bytes themselves are read at fetch, in the order of R106 (log entry 11). -/

namespace Sys2Proof.Machine

/-- The effective address of a memory operand (R94-R102); pointer reads go through the bus (R106). -/
def effectiveAddress : Address → State → Res Addr
  | .zp z, s => .ok (zext16 z) s
  | .zpx z, s => .ok (zext16 (z + s.x)) s
  | .zpy z, s => .ok (zext16 (z + s.y)) s
  | .abs w, s => .ok w s
  | .absx w, s => .ok (w + zext16 s.x) s
  | .absy w, s => .ok (w + zext16 s.y) s
  | .izx z, s => busRead16zp (z + s.x) s
  | .izy z, s => (busRead16zp z s).bind fun base s1 => .ok (base + zext16 s1.y) s1
  | .izp z, s => busRead16zp z s

/-- The operand byte `M` of a source operand, read exactly once (R91, R93). -/
def readSource : Source → State → Res Byte
  | .imm v, s => .ok v s
  | .mem a, s => (effectiveAddress a s).bind busRead

/-- A store to a memory operand: it does not read the address (R91). -/
def storeTo (dst : Address) (v : Byte) (s : State) : Res Unit :=
  (effectiveAddress dst s).bind fun ea s1 => busWrite ea v s1

/-- A read-modify-write of the byte at an address: one read, then one write (R91); `flags` gives P from the byte read. -/
def modifyAt (ea : Addr) (value : Byte → Byte) (flags : Byte → Byte → Byte) (s : State) : Res Unit :=
  (busRead ea s).bind fun m s1 => (busWrite ea (value m) s1).bind fun _ s2 => .ok () (s2.setP (flags m s2.p))

/-- A read-modify-write of a memory operand. -/
def modifyMem (dst : Address) (value : Byte → Byte) (flags : Byte → Byte → Byte) (s : State) : Res Unit :=
  (effectiveAddress dst s).bind fun ea s1 => modifyAt ea value flags s1

/-- A read-modify-write of the accumulator or of a memory operand (R91, R92). -/
def modifyTarget (dst : Target) (value : Byte → Byte) (flags : Byte → Byte → Byte) (s : State) : Res Unit :=
  match dst with
  | .acc => .ok () ((s.setReg .a (value s.a)).setP (flags s.a s.p))
  | .mem a => modifyMem a value flags s

/-- The target of a JMP operand (R103, R104, R172). -/
def jumpTarget : JumpOperand → State → Res Addr
  | .abs w, s => .ok w s
  | .ind w, s => busRead16 w s
  | .aix w, s => busRead16 (w + zext16 s.x) s

/-- The PC after a branch of `len` bytes at `pc` with offset byte `r` (R105, R160, R170). -/
def branchTarget (taken : Bool) (len : Nat) (r : Byte) (pc : Addr) : Addr :=
  let next := pc + BitVec.ofNat 16 len
  if taken then next + sext16 r else next

end Sys2Proof.Machine
end

