-- ==== Sys2Proof/Machine/Arithmetic.lean ====
section
/-! DEFINITION. Arithmetic, comparison, increment and decrement (spec 42_arithmetic.md R120-R135). -/

namespace Sys2Proof.Machine

/-- `A <- r; P.C <- c'; P.V <- v'; setNZ(A)` with `v'` the adder's overflow, or free for a decimal operation under
`DEC_V = draw` (R122-R125). -/
def writeAlu (r : AluResult) (s : State) : Res Unit :=
  if s.flag .decimal && s.cfg.decV == .draw then
    (drawBool s).bind fun v s1 => .ok () ((s1.setReg .a r.value).setP (aluFlags r v s1.p))
  else .ok () ((s.setReg .a r.value).setP (aluFlags r r.overflow s.p))

/-- ADC's result (R124): binary, or decimal when D is set. -/
def adcResult (m : Byte) (s : State) : AluResult :=
  if s.flag .decimal then addDec s.a m (s.flag .carry) else addBin s.a m (s.flag .carry)

/-- SBC's result (R125): the binary adder on the one's complement, or decimal when D is set. -/
def sbcResult (m : Byte) (s : State) : AluResult :=
  if s.flag .decimal then subDec s.a m (s.flag .carry) else addBin s.a (m ^^^ 0xFF) (s.flag .carry)

/-- Read M, then write the result of an adder. -/
def addSource (result : Byte → State → AluResult) (src : Source) (s : State) : Res Unit :=
  (readSource src s).bind fun m s1 => writeAlu (result m s1) s1

/-- `compare(r, M)` (R126-R129). -/
def compareReg (r : Reg) (src : Source) (s : State) : Res Unit :=
  (readSource src s).bind fun m s1 => .ok () (s1.setP (compareFlags s1.cfg.cmpFlags (s1.reg r) m s1.p))

/-- `r <- r + d; setNZ(r)` (R132-R135). -/
def stepReg (r : Reg) (d : Byte) (s : State) : Res Unit := .ok () (s.setRegNZ r (s.reg r + d))

/-- ADC (R124). -/
def execAdc (src : Source) (s : State) : Host.Outcome State Fault Refusal :=
  (addSource adcResult src s).outcome (State.retire (1 + src.bytes))

/-- SBC (R125). -/
def execSbc (src : Source) (s : State) : Host.Outcome State Fault Refusal :=
  (addSource sbcResult src s).outcome (State.retire (1 + src.bytes))

/-- CMP (R127). -/
def execCmp (src : Source) (s : State) : Host.Outcome State Fault Refusal :=
  (compareReg .a src s).outcome (State.retire (1 + src.bytes))

/-- CPX (R128). -/
def execCpx (src : Source) (s : State) : Host.Outcome State Fault Refusal :=
  (compareReg .x src s).outcome (State.retire (1 + src.bytes))

/-- CPY (R129). -/
def execCpy (src : Source) (s : State) : Host.Outcome State Fault Refusal :=
  (compareReg .y src s).outcome (State.retire (1 + src.bytes))

/-- INC (R130). -/
def execInc (dst : Target) (s : State) : Host.Outcome State Fault Refusal :=
  (modifyTarget dst (· + 1) (fun m p => setNZ (m + 1) p) s).outcome (State.retire (1 + dst.bytes))

/-- DEC (R131). -/
def execDec (dst : Target) (s : State) : Host.Outcome State Fault Refusal :=
  (modifyTarget dst (· - 1) (fun m p => setNZ (m - 1) p) s).outcome (State.retire (1 + dst.bytes))

/-- INX (R132). -/
def execInx (s : State) : Host.Outcome State Fault Refusal :=
  (stepReg .x 1 s).outcome (State.retire 1)

/-- INY (R133). -/
def execIny (s : State) : Host.Outcome State Fault Refusal :=
  (stepReg .y 1 s).outcome (State.retire 1)

/-- DEX (R134). -/
def execDex (s : State) : Host.Outcome State Fault Refusal :=
  (stepReg .x (-1) s).outcome (State.retire 1)

/-- DEY (R135). -/
def execDey (s : State) : Host.Outcome State Fault Refusal :=
  (stepReg .y (-1) s).outcome (State.retire 1)

end Sys2Proof.Machine
end

