-- ==== Sys2Proof/Machine/Control.lean ====
section
/-! DEFINITION. Control transfer (spec 44_control.md R160-R176). Every rule here writes PC itself, so only the cycles are charged. -/

namespace Sys2Proof.Machine

/-- `branch(cond)` (R160). -/
def branch (taken : Bool) (r : Byte) (s : State) : Res Unit := .ok () (s.setPc (branchTarget taken 2 r s.pc))

/-- The bit-branches (R170, R171): branch if bit `n` of the zero-page byte equals `want`. -/
def branchBit (want : Bool) (n : Nat) (z r : Byte) (s : State) : Res Unit :=
  (busRead (zext16 z) s).bind fun m s1 => .ok () (s1.setPc (branchTarget (m.getLsbD n == want) 3 r s1.pc))

/-- JMP's transfer (R172). -/
def jump (dst : JumpOperand) (s : State) : Res Unit :=
  (jumpTarget dst s).bind fun target s1 => .ok () (s1.setPc target)

/-- JSR's transfer (R173): push the address of its last byte, high byte first. -/
def call (w : Addr) (s : State) : Res Unit := (pushWord (s.pc + 2) s).bind fun _ s1 => .ok () (s1.setPc w)

/-- RTS's transfer (R174). -/
def returnSub (s : State) : Res Unit := (pullWord s).bind fun target s1 => .ok () (s1.setPc (target + 1))

/-- BCC (R161). -/
def execBcc (r : Byte) (s : State) : Host.Outcome State Fault Refusal :=
  (branch (!s.flag .carry) r s).outcome State.charge

/-- BCS (R162). -/
def execBcs (r : Byte) (s : State) : Host.Outcome State Fault Refusal :=
  (branch (s.flag .carry) r s).outcome State.charge

/-- BEQ (R163). -/
def execBeq (r : Byte) (s : State) : Host.Outcome State Fault Refusal :=
  (branch (s.flag .zero) r s).outcome State.charge

/-- BNE (R164). -/
def execBne (r : Byte) (s : State) : Host.Outcome State Fault Refusal :=
  (branch (!s.flag .zero) r s).outcome State.charge

/-- BMI (R165). -/
def execBmi (r : Byte) (s : State) : Host.Outcome State Fault Refusal :=
  (branch (s.flag .negative) r s).outcome State.charge

/-- BPL (R166). -/
def execBpl (r : Byte) (s : State) : Host.Outcome State Fault Refusal :=
  (branch (!s.flag .negative) r s).outcome State.charge

/-- BVC (R167). -/
def execBvc (r : Byte) (s : State) : Host.Outcome State Fault Refusal :=
  (branch (!s.flag .overflow) r s).outcome State.charge

/-- BVS (R168). -/
def execBvs (r : Byte) (s : State) : Host.Outcome State Fault Refusal :=
  (branch (s.flag .overflow) r s).outcome State.charge

/-- BRA (R169). -/
def execBra (r : Byte) (s : State) : Host.Outcome State Fault Refusal :=
  (branch true r s).outcome State.charge

/-- BBR0 (R170). -/
def execBbr0 (z : Byte) (r : Byte) (s : State) : Host.Outcome State Fault Refusal :=
  (branchBit false 0 z r s).outcome State.charge

/-- BBR1 (R170). -/
def execBbr1 (z : Byte) (r : Byte) (s : State) : Host.Outcome State Fault Refusal :=
  (branchBit false 1 z r s).outcome State.charge

/-- BBR2 (R170). -/
def execBbr2 (z : Byte) (r : Byte) (s : State) : Host.Outcome State Fault Refusal :=
  (branchBit false 2 z r s).outcome State.charge

/-- BBR3 (R170). -/
def execBbr3 (z : Byte) (r : Byte) (s : State) : Host.Outcome State Fault Refusal :=
  (branchBit false 3 z r s).outcome State.charge

/-- BBR4 (R170). -/
def execBbr4 (z : Byte) (r : Byte) (s : State) : Host.Outcome State Fault Refusal :=
  (branchBit false 4 z r s).outcome State.charge

/-- BBR5 (R170). -/
def execBbr5 (z : Byte) (r : Byte) (s : State) : Host.Outcome State Fault Refusal :=
  (branchBit false 5 z r s).outcome State.charge

/-- BBR6 (R170). -/
def execBbr6 (z : Byte) (r : Byte) (s : State) : Host.Outcome State Fault Refusal :=
  (branchBit false 6 z r s).outcome State.charge

/-- BBR7 (R170). -/
def execBbr7 (z : Byte) (r : Byte) (s : State) : Host.Outcome State Fault Refusal :=
  (branchBit false 7 z r s).outcome State.charge

/-- BBS0 (R171). -/
def execBbs0 (z : Byte) (r : Byte) (s : State) : Host.Outcome State Fault Refusal :=
  (branchBit true 0 z r s).outcome State.charge

/-- BBS1 (R171). -/
def execBbs1 (z : Byte) (r : Byte) (s : State) : Host.Outcome State Fault Refusal :=
  (branchBit true 1 z r s).outcome State.charge

/-- BBS2 (R171). -/
def execBbs2 (z : Byte) (r : Byte) (s : State) : Host.Outcome State Fault Refusal :=
  (branchBit true 2 z r s).outcome State.charge

/-- BBS3 (R171). -/
def execBbs3 (z : Byte) (r : Byte) (s : State) : Host.Outcome State Fault Refusal :=
  (branchBit true 3 z r s).outcome State.charge

/-- BBS4 (R171). -/
def execBbs4 (z : Byte) (r : Byte) (s : State) : Host.Outcome State Fault Refusal :=
  (branchBit true 4 z r s).outcome State.charge

/-- BBS5 (R171). -/
def execBbs5 (z : Byte) (r : Byte) (s : State) : Host.Outcome State Fault Refusal :=
  (branchBit true 5 z r s).outcome State.charge

/-- BBS6 (R171). -/
def execBbs6 (z : Byte) (r : Byte) (s : State) : Host.Outcome State Fault Refusal :=
  (branchBit true 6 z r s).outcome State.charge

/-- BBS7 (R171). -/
def execBbs7 (z : Byte) (r : Byte) (s : State) : Host.Outcome State Fault Refusal :=
  (branchBit true 7 z r s).outcome State.charge

/-- JMP (R172). -/
def execJmp (dst : JumpOperand) (s : State) : Host.Outcome State Fault Refusal :=
  (jump dst s).outcome State.charge

/-- JSR (R173). -/
def execJsr (w : Addr) (s : State) : Host.Outcome State Fault Refusal :=
  (call w s).outcome State.charge

/-- RTS (R174). -/
def execRts (s : State) : Host.Outcome State Fault Refusal :=
  (returnSub s).outcome State.charge

/-- BRK (R175): the pushed P has bits 4 and 5 set; the return address is PC + 2. -/
def execBrk (s : State) : Host.Outcome State Fault Refusal :=
  (enterException (s.pc + 2) (s.p ||| 0x30) s).outcome State.charge

/-- RTI (R176). -/
def execRti (s : State) : Host.Outcome State Fault Refusal :=
  (returnFromException s).outcome State.charge

end Sys2Proof.Machine
end

