-- ==== Sys2Proof/Machine/LoadStore.lean ====
section
/-! DEFINITION. Loads and stores (spec 41_load_store.md R110-R116). -/

namespace Sys2Proof.Machine

/-- `r <- M; setNZ(r)` (R110-R112). -/
def load (r : Reg) (src : Source) (s : State) : Res Unit :=
  (readSource src s).bind fun m s1 => .ok () (s1.setRegNZ r m)

/-- LDA (R110). -/
def execLda (src : Source) (s : State) : Host.Outcome State Fault Refusal :=
  (load .a src s).outcome (State.retire (1 + src.bytes))

/-- LDX (R111). -/
def execLdx (src : Source) (s : State) : Host.Outcome State Fault Refusal :=
  (load .x src s).outcome (State.retire (1 + src.bytes))

/-- LDY (R112). -/
def execLdy (src : Source) (s : State) : Host.Outcome State Fault Refusal :=
  (load .y src s).outcome (State.retire (1 + src.bytes))

/-- STA (R113). -/
def execSta (dst : Address) (s : State) : Host.Outcome State Fault Refusal :=
  (storeTo dst s.a s).outcome (State.retire (1 + dst.bytes))

/-- STX (R114). -/
def execStx (dst : Address) (s : State) : Host.Outcome State Fault Refusal :=
  (storeTo dst s.x s).outcome (State.retire (1 + dst.bytes))

/-- STY (R115). -/
def execSty (dst : Address) (s : State) : Host.Outcome State Fault Refusal :=
  (storeTo dst s.y s).outcome (State.retire (1 + dst.bytes))

/-- STZ (R116). -/
def execStz (dst : Address) (s : State) : Host.Outcome State Fault Refusal :=
  (storeTo dst 0x00 s).outcome (State.retire (1 + dst.bytes))

end Sys2Proof.Machine
end

