-- ==== Sys2Proof/Machine/Logic.lean ====
section
/-! DEFINITION. Logic, bit test, bit set/reset and shifts (spec 43_logic_shift.md R140-R151). -/

namespace Sys2Proof.Machine

/-- `A <- A op M; setNZ(A)` (R140-R142). -/
def logic (op : Byte → Byte → Byte) (src : Source) (s : State) : Res Unit :=
  (readSource src s).bind fun m s1 => .ok () (s1.setRegNZ .a (op s1.a m))

/-- Whether a form of BIT copies M's bits 7 and 6 to N and V (R143). -/
def bitCopiesNV (setting : BitImmFlags) : Source → Bool
  | .imm _ => setting == .uniform
  | .mem _ => true

/-- BIT's test (R143). -/
def bitTest (src : Source) (s : State) : Res Unit :=
  (readSource src s).bind fun m s1 => .ok () (s1.setP (bitFlags (bitCopiesNV s1.cfg.bitImmFlags src) s1.a m s1.p))

/-- Reset bit `n` of a zero-page byte (R146): no flag changes. -/
def resetBit (n : Nat) (z : Byte) (s : State) : Res Unit :=
  modifyMem (.zp z) (· &&& ~~~bitMask n) (fun _ p => p) s

/-- Set bit `n` of a zero-page byte (R147): no flag changes. -/
def setBit (n : Nat) (z : Byte) (s : State) : Res Unit :=
  modifyMem (.zp z) (· ||| bitMask n) (fun _ p => p) s

/-- AND (R140). -/
def execAnd (src : Source) (s : State) : Host.Outcome State Fault Refusal :=
  (logic (· &&& ·) src s).outcome (State.retire (1 + src.bytes))

/-- ORA (R141). -/
def execOra (src : Source) (s : State) : Host.Outcome State Fault Refusal :=
  (logic (· ||| ·) src s).outcome (State.retire (1 + src.bytes))

/-- EOR (R142). -/
def execEor (src : Source) (s : State) : Host.Outcome State Fault Refusal :=
  (logic (· ^^^ ·) src s).outcome (State.retire (1 + src.bytes))

/-- BIT (R143). -/
def execBit (src : Source) (s : State) : Host.Outcome State Fault Refusal :=
  (bitTest src s).outcome (State.retire (1 + src.bytes))

/-- TRB (R144). -/
def execTrb (dst : Address) (s : State) : Host.Outcome State Fault Refusal :=
  (modifyMem dst (· &&& ~~~s.a) (testFlags s.a) s).outcome (State.retire (1 + dst.bytes))

/-- TSB (R145). -/
def execTsb (dst : Address) (s : State) : Host.Outcome State Fault Refusal :=
  (modifyMem dst (· ||| s.a) (testFlags s.a) s).outcome (State.retire (1 + dst.bytes))

/-- RMB0 (R146). -/
def execRmb0 (z : Byte) (s : State) : Host.Outcome State Fault Refusal :=
  (resetBit 0 z s).outcome (State.retire 2)

/-- RMB1 (R146). -/
def execRmb1 (z : Byte) (s : State) : Host.Outcome State Fault Refusal :=
  (resetBit 1 z s).outcome (State.retire 2)

/-- RMB2 (R146). -/
def execRmb2 (z : Byte) (s : State) : Host.Outcome State Fault Refusal :=
  (resetBit 2 z s).outcome (State.retire 2)

/-- RMB3 (R146). -/
def execRmb3 (z : Byte) (s : State) : Host.Outcome State Fault Refusal :=
  (resetBit 3 z s).outcome (State.retire 2)

/-- RMB4 (R146). -/
def execRmb4 (z : Byte) (s : State) : Host.Outcome State Fault Refusal :=
  (resetBit 4 z s).outcome (State.retire 2)

/-- RMB5 (R146). -/
def execRmb5 (z : Byte) (s : State) : Host.Outcome State Fault Refusal :=
  (resetBit 5 z s).outcome (State.retire 2)

/-- RMB6 (R146). -/
def execRmb6 (z : Byte) (s : State) : Host.Outcome State Fault Refusal :=
  (resetBit 6 z s).outcome (State.retire 2)

/-- RMB7 (R146). -/
def execRmb7 (z : Byte) (s : State) : Host.Outcome State Fault Refusal :=
  (resetBit 7 z s).outcome (State.retire 2)

/-- SMB0 (R147). -/
def execSmb0 (z : Byte) (s : State) : Host.Outcome State Fault Refusal :=
  (setBit 0 z s).outcome (State.retire 2)

/-- SMB1 (R147). -/
def execSmb1 (z : Byte) (s : State) : Host.Outcome State Fault Refusal :=
  (setBit 1 z s).outcome (State.retire 2)

/-- SMB2 (R147). -/
def execSmb2 (z : Byte) (s : State) : Host.Outcome State Fault Refusal :=
  (setBit 2 z s).outcome (State.retire 2)

/-- SMB3 (R147). -/
def execSmb3 (z : Byte) (s : State) : Host.Outcome State Fault Refusal :=
  (setBit 3 z s).outcome (State.retire 2)

/-- SMB4 (R147). -/
def execSmb4 (z : Byte) (s : State) : Host.Outcome State Fault Refusal :=
  (setBit 4 z s).outcome (State.retire 2)

/-- SMB5 (R147). -/
def execSmb5 (z : Byte) (s : State) : Host.Outcome State Fault Refusal :=
  (setBit 5 z s).outcome (State.retire 2)

/-- SMB6 (R147). -/
def execSmb6 (z : Byte) (s : State) : Host.Outcome State Fault Refusal :=
  (setBit 6 z s).outcome (State.retire 2)

/-- SMB7 (R147). -/
def execSmb7 (z : Byte) (s : State) : Host.Outcome State Fault Refusal :=
  (setBit 7 z s).outcome (State.retire 2)

/-- ASL (R148). -/
def execAsl (dst : Target) (s : State) : Host.Outcome State Fault Refusal :=
  (modifyTarget dst aslByte (fun m p => shiftFlags (m.getLsbD 7) (aslByte m) p) s).outcome (State.retire (1 + dst.bytes))

/-- LSR (R149). -/
def execLsr (dst : Target) (s : State) : Host.Outcome State Fault Refusal :=
  (modifyTarget dst lsrByte (fun m p => shiftFlags (m.getLsbD 0) (lsrByte m) p) s).outcome (State.retire (1 + dst.bytes))

/-- ROL (R150). -/
def execRol (dst : Target) (s : State) : Host.Outcome State Fault Refusal :=
  (modifyTarget dst (rolByte (s.flag .carry)) (fun m p => shiftFlags (m.getLsbD 7) (rolByte (s.flag .carry) m) p) s).outcome (State.retire (1 + dst.bytes))

/-- ROR (R151). -/
def execRor (dst : Target) (s : State) : Host.Outcome State Fault Refusal :=
  (modifyTarget dst (rorByte (s.flag .carry)) (fun m p => shiftFlags (m.getLsbD 0) (rorByte (s.flag .carry) m) p) s).outcome (State.retire (1 + dst.bytes))

end Sys2Proof.Machine
end

