-- ==== Sys2Proof/Machine/StackMisc.lean ====
section
/-! DEFINITION. Stack, transfer, flag, no-operation and wait instructions (spec 45_stack_transfer_misc.md R180-R206). -/

namespace Sys2Proof.Machine

/-- `r <- Pull(); setNZ(r)` (R184, R186, R187). -/
def pullReg (r : Reg) (s : State) : Res Unit := (pull s).bind fun v s1 => .ok () (s1.setRegNZ r v)

/-- `dst <- src; setNZ(dst)` (R188-R191). -/
def transfer (src dst : Reg) (s : State) : Res Unit := .ok () (s.setRegNZ dst (s.reg src))

/-- Write one flag (R194-R200). -/
def writeFlag (f : Flag) (b : Bool) (s : State) : Res Unit := .ok () (s.setFlag f b)

/-- Enter Waiting or Stopped (R205, R206). -/
def enterMode (m : CpuMode) (s : State) : Res Unit := .ok () (s.setMode m)

/-- PHA (R180). -/
def execPha (s : State) : Host.Outcome State Fault Refusal :=
  (push s.a s).outcome (State.retire 1)

/-- PHP (R181): only the pushed copy has bits 4 and 5 forced. -/
def execPhp (s : State) : Host.Outcome State Fault Refusal :=
  (push (s.p ||| 0x30) s).outcome (State.retire 1)

/-- PHX (R182). -/
def execPhx (s : State) : Host.Outcome State Fault Refusal :=
  (push s.x s).outcome (State.retire 1)

/-- PHY (R183). -/
def execPhy (s : State) : Host.Outcome State Fault Refusal :=
  (push s.y s).outcome (State.retire 1)

/-- PLA (R184). -/
def execPla (s : State) : Host.Outcome State Fault Refusal :=
  (pullReg .a s).outcome (State.retire 1)

/-- PLP (R185): all 8 bits, verbatim. -/
def execPlp (s : State) : Host.Outcome State Fault Refusal :=
  ((pull s).bind fun p s1 => .ok () (s1.setP p)).outcome (State.retire 1)

/-- PLX (R186). -/
def execPlx (s : State) : Host.Outcome State Fault Refusal :=
  (pullReg .x s).outcome (State.retire 1)

/-- PLY (R187). -/
def execPly (s : State) : Host.Outcome State Fault Refusal :=
  (pullReg .y s).outcome (State.retire 1)

/-- TAX (R188). -/
def execTax (s : State) : Host.Outcome State Fault Refusal :=
  (transfer .a .x s).outcome (State.retire 1)

/-- TAY (R189). -/
def execTay (s : State) : Host.Outcome State Fault Refusal :=
  (transfer .a .y s).outcome (State.retire 1)

/-- TXA (R190). -/
def execTxa (s : State) : Host.Outcome State Fault Refusal :=
  (transfer .x .a s).outcome (State.retire 1)

/-- TYA (R191). -/
def execTya (s : State) : Host.Outcome State Fault Refusal :=
  (transfer .y .a s).outcome (State.retire 1)

/-- TSX (R192). -/
def execTsx (s : State) : Host.Outcome State Fault Refusal :=
  ((readSp s).bind fun sp s1 => .ok () (s1.setRegNZ .x sp)).outcome (State.retire 1)

/-- TXS (R193): no flag. -/
def execTxs (s : State) : Host.Outcome State Fault Refusal :=
  (Res.ok () (s.setSp s.x)).outcome (State.retire 1)

/-- CLC (R194). -/
def execClc (s : State) : Host.Outcome State Fault Refusal :=
  (writeFlag .carry false s).outcome (State.retire 1)

/-- SEC (R195). -/
def execSec (s : State) : Host.Outcome State Fault Refusal :=
  (writeFlag .carry true s).outcome (State.retire 1)

/-- CLI (R196). -/
def execCli (s : State) : Host.Outcome State Fault Refusal :=
  (writeFlag .interrupt false s).outcome (State.retire 1)

/-- SEI (R197). -/
def execSei (s : State) : Host.Outcome State Fault Refusal :=
  (writeFlag .interrupt true s).outcome (State.retire 1)

/-- CLD (R198). -/
def execCld (s : State) : Host.Outcome State Fault Refusal :=
  (writeFlag .decimal false s).outcome (State.retire 1)

/-- SED (R199). -/
def execSed (s : State) : Host.Outcome State Fault Refusal :=
  (writeFlag .decimal true s).outcome (State.retire 1)

/-- CLV (R200). -/
def execClv (s : State) : Host.Outcome State Fault Refusal :=
  (writeFlag .overflow false s).outcome (State.retire 1)

/-- NOP (R201). -/
def execNop (s : State) : Host.Outcome State Fault Refusal :=
  (Res.ok () s).outcome (State.retire 1)

/-- NOP1 (R202): an undefined 1-byte opcode. -/
def execNop1 (_op : Byte) (s : State) : Host.Outcome State Fault Refusal :=
  (Res.ok () s).outcome (State.retire 1)

/-- NOP2 (R203): an undefined 2-byte opcode. -/
def execNop2 (_op : Byte) (s : State) : Host.Outcome State Fault Refusal :=
  (Res.ok () s).outcome (State.retire 2)

/-- NOP3 (R204): an undefined 3-byte opcode. -/
def execNop3 (_op : Byte) (s : State) : Host.Outcome State Fault Refusal :=
  (Res.ok () s).outcome (State.retire 3)

/-- WAI (R205). -/
def execWai (s : State) : Host.Outcome State Fault Refusal :=
  (enterMode .waiting s).outcome (State.retire 1)

/-- STP (R206). -/
def execStp (s : State) : Host.Outcome State Fault Refusal :=
  (enterMode .stopped s).outcome (State.retire 1)

end Sys2Proof.Machine
end

