-- ==== Sys2Proof/Machine/Dispatch.lean ====
section
/-! DEFINITION. The dispatch: one arm per constructor of Instr (spec 40_addressing.md R90 step 4). -/

namespace Sys2Proof.Machine

-- `exec i s` runs the instruction i in the frame of R90 after the fetch: s has the opcode in currentInstruction, PC at the opcode.
def exec (i : Instr) (s : State) : Host.Outcome State Fault Refusal :=
  match i with
  | .lda src => Sys2Proof.Machine.execLda src s
  | .ldx src => Sys2Proof.Machine.execLdx src s
  | .ldy src => Sys2Proof.Machine.execLdy src s
  | .sta dst => Sys2Proof.Machine.execSta dst s
  | .stx dst => Sys2Proof.Machine.execStx dst s
  | .sty dst => Sys2Proof.Machine.execSty dst s
  | .stz dst => Sys2Proof.Machine.execStz dst s
  | .adc src => Sys2Proof.Machine.execAdc src s
  | .sbc src => Sys2Proof.Machine.execSbc src s
  | .cmp src => Sys2Proof.Machine.execCmp src s
  | .cpx src => Sys2Proof.Machine.execCpx src s
  | .cpy src => Sys2Proof.Machine.execCpy src s
  | .inc dst => Sys2Proof.Machine.execInc dst s
  | .dec dst => Sys2Proof.Machine.execDec dst s
  | .inx => Sys2Proof.Machine.execInx s
  | .iny => Sys2Proof.Machine.execIny s
  | .dex => Sys2Proof.Machine.execDex s
  | .dey => Sys2Proof.Machine.execDey s
  | .and src => Sys2Proof.Machine.execAnd src s
  | .ora src => Sys2Proof.Machine.execOra src s
  | .eor src => Sys2Proof.Machine.execEor src s
  | .bit src => Sys2Proof.Machine.execBit src s
  | .trb dst => Sys2Proof.Machine.execTrb dst s
  | .tsb dst => Sys2Proof.Machine.execTsb dst s
  | .rmb0 z => Sys2Proof.Machine.execRmb0 z s
  | .rmb1 z => Sys2Proof.Machine.execRmb1 z s
  | .rmb2 z => Sys2Proof.Machine.execRmb2 z s
  | .rmb3 z => Sys2Proof.Machine.execRmb3 z s
  | .rmb4 z => Sys2Proof.Machine.execRmb4 z s
  | .rmb5 z => Sys2Proof.Machine.execRmb5 z s
  | .rmb6 z => Sys2Proof.Machine.execRmb6 z s
  | .rmb7 z => Sys2Proof.Machine.execRmb7 z s
  | .smb0 z => Sys2Proof.Machine.execSmb0 z s
  | .smb1 z => Sys2Proof.Machine.execSmb1 z s
  | .smb2 z => Sys2Proof.Machine.execSmb2 z s
  | .smb3 z => Sys2Proof.Machine.execSmb3 z s
  | .smb4 z => Sys2Proof.Machine.execSmb4 z s
  | .smb5 z => Sys2Proof.Machine.execSmb5 z s
  | .smb6 z => Sys2Proof.Machine.execSmb6 z s
  | .smb7 z => Sys2Proof.Machine.execSmb7 z s
  | .asl dst => Sys2Proof.Machine.execAsl dst s
  | .lsr dst => Sys2Proof.Machine.execLsr dst s
  | .rol dst => Sys2Proof.Machine.execRol dst s
  | .ror dst => Sys2Proof.Machine.execRor dst s
  | .bcc r => Sys2Proof.Machine.execBcc r s
  | .bcs r => Sys2Proof.Machine.execBcs r s
  | .beq r => Sys2Proof.Machine.execBeq r s
  | .bne r => Sys2Proof.Machine.execBne r s
  | .bmi r => Sys2Proof.Machine.execBmi r s
  | .bpl r => Sys2Proof.Machine.execBpl r s
  | .bvc r => Sys2Proof.Machine.execBvc r s
  | .bvs r => Sys2Proof.Machine.execBvs r s
  | .bra r => Sys2Proof.Machine.execBra r s
  | .bbr0 z r => Sys2Proof.Machine.execBbr0 z r s
  | .bbr1 z r => Sys2Proof.Machine.execBbr1 z r s
  | .bbr2 z r => Sys2Proof.Machine.execBbr2 z r s
  | .bbr3 z r => Sys2Proof.Machine.execBbr3 z r s
  | .bbr4 z r => Sys2Proof.Machine.execBbr4 z r s
  | .bbr5 z r => Sys2Proof.Machine.execBbr5 z r s
  | .bbr6 z r => Sys2Proof.Machine.execBbr6 z r s
  | .bbr7 z r => Sys2Proof.Machine.execBbr7 z r s
  | .bbs0 z r => Sys2Proof.Machine.execBbs0 z r s
  | .bbs1 z r => Sys2Proof.Machine.execBbs1 z r s
  | .bbs2 z r => Sys2Proof.Machine.execBbs2 z r s
  | .bbs3 z r => Sys2Proof.Machine.execBbs3 z r s
  | .bbs4 z r => Sys2Proof.Machine.execBbs4 z r s
  | .bbs5 z r => Sys2Proof.Machine.execBbs5 z r s
  | .bbs6 z r => Sys2Proof.Machine.execBbs6 z r s
  | .bbs7 z r => Sys2Proof.Machine.execBbs7 z r s
  | .jmp dst => Sys2Proof.Machine.execJmp dst s
  | .jsr w => Sys2Proof.Machine.execJsr w s
  | .rts => Sys2Proof.Machine.execRts s
  | .brk => Sys2Proof.Machine.execBrk s
  | .rti => Sys2Proof.Machine.execRti s
  | .pha => Sys2Proof.Machine.execPha s
  | .php => Sys2Proof.Machine.execPhp s
  | .phx => Sys2Proof.Machine.execPhx s
  | .phy => Sys2Proof.Machine.execPhy s
  | .pla => Sys2Proof.Machine.execPla s
  | .plp => Sys2Proof.Machine.execPlp s
  | .plx => Sys2Proof.Machine.execPlx s
  | .ply => Sys2Proof.Machine.execPly s
  | .tax => Sys2Proof.Machine.execTax s
  | .tay => Sys2Proof.Machine.execTay s
  | .txa => Sys2Proof.Machine.execTxa s
  | .tya => Sys2Proof.Machine.execTya s
  | .tsx => Sys2Proof.Machine.execTsx s
  | .txs => Sys2Proof.Machine.execTxs s
  | .clc => Sys2Proof.Machine.execClc s
  | .sec => Sys2Proof.Machine.execSec s
  | .cli => Sys2Proof.Machine.execCli s
  | .sei => Sys2Proof.Machine.execSei s
  | .cld => Sys2Proof.Machine.execCld s
  | .sed => Sys2Proof.Machine.execSed s
  | .clv => Sys2Proof.Machine.execClv s
  | .nop => Sys2Proof.Machine.execNop s
  | .nop1 op => Sys2Proof.Machine.execNop1 op s
  | .nop2 op => Sys2Proof.Machine.execNop2 op s
  | .nop3 op => Sys2Proof.Machine.execNop3 op s
  | .wai => Sys2Proof.Machine.execWai s
  | .stp => Sys2Proof.Machine.execStp s

end Sys2Proof.Machine
end

