-- ==== Sys2Proof/Machine/Fetch.lean ====
section
/-! DEFINITION. Fetching an instruction (spec 40_addressing.md R90 steps 1-3, R106): the opcode, then the operand bytes the form
reads, each one bus read. -/

namespace Sys2Proof.Machine

/-- The operand bytes at PC+1 and PC+2 of an instruction that reads `n` of them; a byte not read is given as 0. -/
def readOperandBytes (n : Nat) (s : State) : Res (Byte × Byte) :=
  match n with
  | 0 => .ok (0, 0) s
  | 1 => (busRead (s.pc + 1) s).bind fun b1 s1 => .ok (b1, 0) s1
  | _ => (busRead (s.pc + 1) s).bind fun b1 s1 => (busRead (s.pc + 2) s1).bind fun b2 s2 => .ok (b1, b2) s2

/-- Fetch and decode the instruction at PC; PC still holds the address of the opcode (R90). -/
def fetch (s : State) : Res Instr :=
  (busRead s.pc s).bind fun op s1 =>
  (readOperandBytes (operandReadsOf s.cfg.wdcUnnamedExt op) (s1.latchOpcode op)).bind fun b s2 =>
  .ok (decodeBytes s.cfg.wdcUnnamedExt op b.1 b.2) s2

/-- Bytes of flat storage written from an address upward, the address wrapping at 16 bits. -/
def State.storeBytes (s : State) (a : Addr) : List Byte → State
  | [] => s
  | v :: vs => (s.storeByte a v).storeBytes (a + 1) vs

end Sys2Proof.Machine
end

