-- ==== Sys2Proof/Machine/Engine.lean ====
section
/-! DEFINITION. The engine: one `step()` with interrupt sampling, the device tick and the stall detector (spec 60_exceptions.md
R210-R216, R262), and the harness that applies the pending host commands first (R258-R263). -/

namespace Sys2Proof.Machine

/-- `tickAll()` (R212): the disk's tick does nothing (R232), the timer ticks if attached, then the IRQ line is recomputed. -/
def State.tickAll (s : State) : State :=
  let t := if s.cfg.viaPresent then s.timer.tick else s.timer
  { s with timer := t, irqLine := s.cfg.viaPresent && t.asserted }

/-- Logging and the stall detector at the end of any step (R262, D39): nothing at log level 0; else any log lines, and a pause or none,
both free (log entry 7). -/
def State.logAndStall (s : State) : State :=
  if s.logLevel = 0 then s
  else
    let n := s.drawCount
    let lines := (Config.freeLines n).map EngineEvent.logLine
    if Config.freeBool n then
      { s.emitAll (lines ++ [.logLine (Config.freeText n)]) with runState := .paused, drawCount := n + 1 }
    else { s.emitAll lines with drawCount := n + 1 }

/-- The end of a step that executed or waited: `tickAll()`, then logging (R210, R262). -/
def State.endStep (s : State) : State := s.tickAll.logAndStall

/-- Apply `f` to a next state. -/
def onNext (o : Host.Outcome State Fault Refusal) (f : State → State) : Host.Outcome State Fault Refusal :=
  match o with
  | .next s => .next (f s)
  | .fault r => .fault r
  | .refused r => .refused r

/-- Fetch one instruction and execute it (R90). -/
def runInstruction (s : State) : Host.Outcome State Fault Refusal :=
  match fetch s with
  | .ok i s1 => exec i s1
  | .fault f => .fault f

/-- Whether an interrupt is taken at the start of an executing step (R213). -/
def State.takesInterrupt (s : State) : Bool := s.irqLine && !s.flag .interrupt

/-- The executing part of a step (R210): an interrupt entry or one instruction, then the tick. -/
def executeOne (s : State) : Host.Outcome State Fault Refusal :=
  onNext (if s.takesInterrupt then (interruptEntry s).outcome id else runInstruction s) State.endStep

/-- One `step()` of the engine (R210). -/
def engineStep (s : State) : Host.Outcome State Fault Refusal :=
  if s.runState = .paused ∧ s.stepRequest = .idle then .next s.logAndStall
  else
    match s.cpuMode with
    | .stopped => .next s.clearRequest.logAndStall
    | .waiting => if s.irqLine then executeOne (s.clearRequest.setMode .executing) else .next s.clearRequest.endStep
    | .executing => executeOne s.clearRequest

/-- A processor snapshot's content (R39). -/
def State.snapshot (s : State) : ProcessorState :=
  { a := s.a, x := s.x, y := s.y, sp := s.sp, spHeld := s.spHeld, pc := s.pc, p := s.p, cycleClock := s.cycleClock
    currentInstruction := s.currentInstruction, irqLine := s.irqLine }

/-- `SendInputByte(c)` (R252): a character above 0xFF is refused and changes nothing. -/
def State.sendInput (s : State) (c : Char) : State :=
  if c.toNat ≤ 0xFF then
    (s.storeByte s.cfg.serialIn (BitVec.ofNat 8 c.toNat)).storeByte s.cfg.serialReady s.cfg.serialReadyValue
  else s

/-- `TogglePause` (R263). -/
def RunState.toggle : RunState → RunState
  | .running => .paused
  | .paused => .running

/-- The effect of one host command (R258). -/
def applyCommand (c : HostCommand) (s : State) : Res Unit :=
  match c with
  | .fetchMemorySnapshot => .ok () (s.emit (.memorySnapshot s.mem))
  | .fetchProcessorSnapshot => .ok () (s.emit (.processorSnapshot s.snapshot))
  | .reset => resetSequence s
  | .sendInputByte ch => .ok () (s.sendInput ch)
  | .setLogLevel n => .ok () { s with logLevel := n }
  | .togglePause => .ok () { s with runState := s.runState.toggle }
  | .step => .ok () { s with stepRequest := .stepOnce }

/-- Apply commands in the order received (R258, R260). -/
def applyCommands : List HostCommand → State → Res Unit
  | [], s => .ok () s
  | c :: cs, s => (applyCommand c s).bind fun _ s1 => applyCommands cs s1

/-- One iteration of the harness (R258): drain the pending commands, then one `step()`. -/
def harnessStep (s : State) : Host.Outcome State Fault Refusal :=
  match applyCommands s.pending s.takeCommands with
  | .ok _ s1 => engineStep s1
  | .fault f => .fault f

/-- The lists of `commands` with `c` as the last command of the list of step `k` from now. -/
def sendAt (c : HostCommand) : Nat → List (List HostCommand) → List (List HostCommand)
  | 0, [] => [[c]]
  | 0, b :: bs => (b ++ [c]) :: bs
  | k + 1, [] => [] :: sendAt c k []
  | k + 1, b :: bs => b :: sendAt c k bs

/-- The host's one move (R265): a command that arrives at the boundary before step `k` from now, after those sent before it. -/
def State.send (k : Nat) (c : HostCommand) (s : State) : State := { s with commands := sendAt c k s.commands }

/-- A machine whose next step executes the instruction at PC: no command pending, running, executing, no interrupt asserted. -/
def State.readyToFetch (s : State) : State :=
  { s with commands := [] :: s.commands.tail, runState := .running, cpuMode := .executing, irqLine := false }

end Sys2Proof.Machine
end

