-- ==== Sys2Proof/Machine/Step.lean ====
section
/-! DEFINITION. One step of the machine (spec 60_exceptions.md R210, R258), and an instruction word placed where it fetches. -/

namespace Sys2Proof.Machine

/-- One step: an iteration of the harness. -/
def step (s : State) : Host.Outcome State Fault Refusal := harnessStep s

/-- `s` with the three bytes of an instruction word stored at PC (byte 0 is bits 7:0 of `w`; bits from `nbits` on are 0), and
ready to fetch them at the next step (log entry 4). -/
def State.withFetchWord (s : State) (nbits w : Nat) : State :=
  let v := w % 2 ^ nbits
  s.readyToFetch.storeBytes s.pc [BitVec.ofNat 8 v, BitVec.ofNat 8 (v / 256), BitVec.ofNat 8 (v / 65536)]

end Sys2Proof.Machine
end

