-- ==== Sys2Proof/Safety.lean ====
section
/-! DEFINITION. What claims say of runs: the invariant of every machine that was powered on, what a step keeps, and the end of a run
(spec 60_exceptions.md R264). -/

namespace Sys2Proof.Machine

/-- The invariant: storage is in canonical form (R40, R41); the disk offset lies in 0..512 and an active command under
`after_512th` has room left (R222, R225, R226); the timer stores only bits 6 and 5 of its flag and enable registers (R233);
without a VIA no interrupt is asserted (D18); without the unnamed extensions the mode is Executing (R35); SP holds a value
where `SP_RESET` gives one (R22); the cycle clock fits its width (R32); the events delivered are among those emitted, in
their order (R260). -/
structure State.Inv (s : State) : Prop where
  memory    : s.mem.wf
  offset    : s.disk.offset ≤ 512
  active    : s.cfg.diskClear = .after512th → s.disk.command ≠ .none → s.disk.offset < 512
  ifr       : s.timer.ifr &&& 0x9F = 0
  ier       : s.timer.ier &&& 0x9F = 0
  noVia     : s.cfg.viaPresent = false → s.irqLine = false
  noWait    : s.cfg.wdcUnnamedExt = false → s.cpuMode = .executing
  spHeld    : s.cfg.spReset.isSome = true → s.spHeld = true
  clock     : s.cycleClock < 2 ^ s.cfg.clockWidth
  delivered : s.delivered.Sublist s.events

/-- The state an instruction of `len` bytes that does not write PC leaves, `s` having its other effects (R90 steps 5 and 6). -/
def State.framed (len : Nat) (s : State) : State :=
  { s with
    pc := s.pc + BitVec.ofNat 16 len
    cycleClock := (s.cycleClock + s.cfg.cycles.getD s.currentInstruction.toNat 0) % 2 ^ s.cfg.clockWidth }

/-- The state an instruction that writes PC leaves (R90 step 6). -/
def State.jumped (target : Addr) (s : State) : State :=
  { s with
    pc := target
    cycleClock := (s.cycleClock + s.cfg.cycles.getD s.currentInstruction.toNat 0) % 2 ^ s.cfg.clockWidth }

/-- The ten forms of a source operand: IMM, ZP, ZPX, ZPY, IZX, IZY, IZP, ABS, ABSX, ABSY. -/
def sourceForms (v : Byte) (w : Addr) : List Source :=
  [.imm v, .mem (.zp v), .mem (.zpx v), .mem (.zpy v), .mem (.izx v), .mem (.izy v), .mem (.izp v),
   .mem (.abs w), .mem (.absx w), .mem (.absy w)]

/-- The nine forms of a memory operand: ZP, ZPX, ZPY, IZX, IZY, IZP, ABS, ABSX, ABSY. -/
def addressForms (v : Byte) (w : Addr) : List Address :=
  [.zp v, .zpx v, .zpy v, .izx v, .izy v, .izp v, .abs w, .absx w, .absy w]

/-- The five forms of a shift, INC or DEC operand: ACC, ZP, ZPX, ABS, ABSX. -/
def targetForms (v : Byte) (w : Addr) : List Target :=
  [.acc, .mem (.zp v), .mem (.zpx v), .mem (.abs w), .mem (.absx w)]

/-- RMBn, SMBn, BBRn and BBSn by their bit number (R75). -/
def rmbInstr (n : Fin 8) (z : Byte) : Instr :=
  match n with
  | 0 => .rmb0 z
  | 1 => .rmb1 z
  | 2 => .rmb2 z
  | 3 => .rmb3 z
  | 4 => .rmb4 z
  | 5 => .rmb5 z
  | 6 => .rmb6 z
  | 7 => .rmb7 z

def smbInstr (n : Fin 8) (z : Byte) : Instr :=
  match n with
  | 0 => .smb0 z
  | 1 => .smb1 z
  | 2 => .smb2 z
  | 3 => .smb3 z
  | 4 => .smb4 z
  | 5 => .smb5 z
  | 6 => .smb6 z
  | 7 => .smb7 z

def bbrInstr (n : Fin 8) (z r : Byte) : Instr :=
  match n with
  | 0 => .bbr0 z r
  | 1 => .bbr1 z r
  | 2 => .bbr2 z r
  | 3 => .bbr3 z r
  | 4 => .bbr4 z r
  | 5 => .bbr5 z r
  | 6 => .bbr6 z r
  | 7 => .bbr7 z r

def bbsInstr (n : Fin 8) (z r : Byte) : Instr :=
  match n with
  | 0 => .bbs0 z r
  | 1 => .bbs1 z r
  | 2 => .bbs2 z r
  | 3 => .bbs3 z r
  | 4 => .bbs4 z r
  | 5 => .bbs5 z r
  | 6 => .bbs6 z r
  | 7 => .bbs7 z r

end Sys2Proof.Machine

namespace Sys2Proof

/-- The instructions that write A (R20). -/
def Instr.writesA : Instr → Bool
  | .lda _ | .pla | .txa | .tya | .adc _ | .sbc _ | .and _ | .ora _ | .eor _ => true
  | .asl .acc | .lsr .acc | .rol .acc | .ror .acc | .inc .acc | .dec .acc => true
  | .ldx _ | .ldy _ | .sta _ | .stx _ | .sty _ | .stz _ | .cmp _ | .cpx _ | .cpy _ | .inc (.mem _) | .dec (.mem _)
  | .inx | .iny | .dex | .dey | .bit _ | .trb _ | .tsb _ | .rmb0 _ | .rmb1 _ | .rmb2 _ | .rmb3 _ | .rmb4 _ | .rmb5 _
  | .rmb6 _ | .rmb7 _ | .smb0 _ | .smb1 _ | .smb2 _ | .smb3 _ | .smb4 _ | .smb5 _ | .smb6 _ | .smb7 _ | .asl (.mem _)
  | .lsr (.mem _) | .rol (.mem _) | .ror (.mem _) | .bcc _ | .bcs _ | .beq _ | .bne _ | .bmi _ | .bpl _ | .bvc _
  | .bvs _ | .bra _ | .bbr0 _ _ | .bbr1 _ _ | .bbr2 _ _ | .bbr3 _ _ | .bbr4 _ _ | .bbr5 _ _ | .bbr6 _ _ | .bbr7 _ _
  | .bbs0 _ _ | .bbs1 _ _ | .bbs2 _ _ | .bbs3 _ _ | .bbs4 _ _ | .bbs5 _ _ | .bbs6 _ _ | .bbs7 _ _ | .jmp _ | .jsr _
  | .rts | .brk | .rti | .pha | .php | .phx | .phy | .plp | .plx | .ply | .tax | .tay | .tsx | .txs | .clc | .sec
  | .cli | .sei | .cld | .sed | .clv | .nop | .nop1 _ | .nop2 _ | .nop3 _ | .wai | .stp => false

/-- The instructions that write X (R20). -/
def Instr.writesX : Instr → Bool
  | .ldx _ | .plx | .tax | .tsx | .inx | .dex => true
  | .lda _ | .ldy _ | .sta _ | .stx _ | .sty _ | .stz _ | .adc _ | .sbc _ | .cmp _ | .cpx _ | .cpy _ | .inc _ | .dec _
  | .iny | .dey | .and _ | .ora _ | .eor _ | .bit _ | .trb _ | .tsb _ | .rmb0 _ | .rmb1 _ | .rmb2 _ | .rmb3 _
  | .rmb4 _ | .rmb5 _ | .rmb6 _ | .rmb7 _ | .smb0 _ | .smb1 _ | .smb2 _ | .smb3 _ | .smb4 _ | .smb5 _ | .smb6 _
  | .smb7 _ | .asl _ | .lsr _ | .rol _ | .ror _ | .bcc _ | .bcs _ | .beq _ | .bne _ | .bmi _ | .bpl _ | .bvc _
  | .bvs _ | .bra _ | .bbr0 _ _ | .bbr1 _ _ | .bbr2 _ _ | .bbr3 _ _ | .bbr4 _ _ | .bbr5 _ _ | .bbr6 _ _ | .bbr7 _ _
  | .bbs0 _ _ | .bbs1 _ _ | .bbs2 _ _ | .bbs3 _ _ | .bbs4 _ _ | .bbs5 _ _ | .bbs6 _ _ | .bbs7 _ _ | .jmp _ | .jsr _
  | .rts | .brk | .rti | .pha | .php | .phx | .phy | .pla | .plp | .ply | .tay | .txa | .tya | .txs | .clc | .sec
  | .cli | .sei | .cld | .sed | .clv | .nop | .nop1 _ | .nop2 _ | .nop3 _ | .wai | .stp => false

/-- The instructions that write Y (R20). -/
def Instr.writesY : Instr → Bool
  | .ldy _ | .ply | .tay | .iny | .dey => true
  | .lda _ | .ldx _ | .sta _ | .stx _ | .sty _ | .stz _ | .adc _ | .sbc _ | .cmp _ | .cpx _ | .cpy _ | .inc _ | .dec _
  | .inx | .dex | .and _ | .ora _ | .eor _ | .bit _ | .trb _ | .tsb _ | .rmb0 _ | .rmb1 _ | .rmb2 _ | .rmb3 _
  | .rmb4 _ | .rmb5 _ | .rmb6 _ | .rmb7 _ | .smb0 _ | .smb1 _ | .smb2 _ | .smb3 _ | .smb4 _ | .smb5 _ | .smb6 _
  | .smb7 _ | .asl _ | .lsr _ | .rol _ | .ror _ | .bcc _ | .bcs _ | .beq _ | .bne _ | .bmi _ | .bpl _ | .bvc _
  | .bvs _ | .bra _ | .bbr0 _ _ | .bbr1 _ _ | .bbr2 _ _ | .bbr3 _ _ | .bbr4 _ _ | .bbr5 _ _ | .bbr6 _ _ | .bbr7 _ _
  | .bbs0 _ _ | .bbs1 _ _ | .bbs2 _ _ | .bbs3 _ _ | .bbs4 _ _ | .bbs5 _ _ | .bbs6 _ _ | .bbs7 _ _ | .jmp _ | .jsr _
  | .rts | .brk | .rti | .pha | .php | .phx | .phy | .pla | .plp | .plx | .tax | .txa | .tya | .tsx | .txs | .clc
  | .sec | .cli | .sei | .cld | .sed | .clv | .nop | .nop1 _ | .nop2 _ | .nop3 _ | .wai | .stp => false

/-- The instructions that push (R52). -/
def Instr.pushes : Instr → Bool
  | .pha | .php | .phx | .phy | .jsr _ | .brk => true
  | .lda _ | .ldx _ | .ldy _ | .sta _ | .stx _ | .sty _ | .stz _ | .adc _ | .sbc _ | .cmp _ | .cpx _ | .cpy _ | .inc _
  | .dec _ | .inx | .iny | .dex | .dey | .and _ | .ora _ | .eor _ | .bit _ | .trb _ | .tsb _ | .rmb0 _ | .rmb1 _
  | .rmb2 _ | .rmb3 _ | .rmb4 _ | .rmb5 _ | .rmb6 _ | .rmb7 _ | .smb0 _ | .smb1 _ | .smb2 _ | .smb3 _ | .smb4 _
  | .smb5 _ | .smb6 _ | .smb7 _ | .asl _ | .lsr _ | .rol _ | .ror _ | .bcc _ | .bcs _ | .beq _ | .bne _ | .bmi _
  | .bpl _ | .bvc _ | .bvs _ | .bra _ | .bbr0 _ _ | .bbr1 _ _ | .bbr2 _ _ | .bbr3 _ _ | .bbr4 _ _ | .bbr5 _ _
  | .bbr6 _ _ | .bbr7 _ _ | .bbs0 _ _ | .bbs1 _ _ | .bbs2 _ _ | .bbs3 _ _ | .bbs4 _ _ | .bbs5 _ _ | .bbs6 _ _
  | .bbs7 _ _ | .jmp _ | .rts | .rti | .pla | .plp | .plx | .ply | .tax | .tay | .txa | .tya | .tsx | .txs | .clc
  | .sec | .cli | .sei | .cld | .sed | .clv | .nop | .nop1 _ | .nop2 _ | .nop3 _ | .wai | .stp => false

/-- The instructions that pull (R53). -/
def Instr.pulls : Instr → Bool
  | .pla | .plp | .plx | .ply | .rts | .rti => true
  | .lda _ | .ldx _ | .ldy _ | .sta _ | .stx _ | .sty _ | .stz _ | .adc _ | .sbc _ | .cmp _ | .cpx _ | .cpy _ | .inc _
  | .dec _ | .inx | .iny | .dex | .dey | .and _ | .ora _ | .eor _ | .bit _ | .trb _ | .tsb _ | .rmb0 _ | .rmb1 _
  | .rmb2 _ | .rmb3 _ | .rmb4 _ | .rmb5 _ | .rmb6 _ | .rmb7 _ | .smb0 _ | .smb1 _ | .smb2 _ | .smb3 _ | .smb4 _
  | .smb5 _ | .smb6 _ | .smb7 _ | .asl _ | .lsr _ | .rol _ | .ror _ | .bcc _ | .bcs _ | .beq _ | .bne _ | .bmi _
  | .bpl _ | .bvc _ | .bvs _ | .bra _ | .bbr0 _ _ | .bbr1 _ _ | .bbr2 _ _ | .bbr3 _ _ | .bbr4 _ _ | .bbr5 _ _
  | .bbr6 _ _ | .bbr7 _ _ | .bbs0 _ _ | .bbs1 _ _ | .bbs2 _ _ | .bbs3 _ _ | .bbs4 _ _ | .bbs5 _ _ | .bbs6 _ _
  | .bbs7 _ _ | .jmp _ | .jsr _ | .brk | .pha | .php | .phx | .phy | .tax | .tay | .txa | .tya | .tsx | .txs | .clc
  | .sec | .cli | .sei | .cld | .sed | .clv | .nop | .nop1 _ | .nop2 _ | .nop3 _ | .wai | .stp => false

/-- The instructions that write SP (R22). -/
def Instr.writesSp (i : Instr) : Bool :=
  i.pushes || i.pulls || match i with
    | .txs => true
    | .lda _ | .ldx _ | .ldy _ | .sta _ | .stx _ | .sty _ | .stz _ | .adc _ | .sbc _ | .cmp _ | .cpx _ | .cpy _
    | .inc _ | .dec _ | .inx | .iny | .dex | .dey | .and _ | .ora _ | .eor _ | .bit _ | .trb _ | .tsb _ | .rmb0 _
    | .rmb1 _ | .rmb2 _ | .rmb3 _ | .rmb4 _ | .rmb5 _ | .rmb6 _ | .rmb7 _ | .smb0 _ | .smb1 _ | .smb2 _ | .smb3 _
    | .smb4 _ | .smb5 _ | .smb6 _ | .smb7 _ | .asl _ | .lsr _ | .rol _ | .ror _ | .bcc _ | .bcs _ | .beq _ | .bne _
    | .bmi _ | .bpl _ | .bvc _ | .bvs _ | .bra _ | .bbr0 _ _ | .bbr1 _ _ | .bbr2 _ _ | .bbr3 _ _ | .bbr4 _ _
    | .bbr5 _ _ | .bbr6 _ _ | .bbr7 _ _ | .bbs0 _ _ | .bbs1 _ _ | .bbs2 _ _ | .bbs3 _ _ | .bbs4 _ _ | .bbs5 _ _
    | .bbs6 _ _ | .bbs7 _ _ | .jmp _ | .jsr _ | .rts | .brk | .rti | .pha | .php | .phx | .phy | .pla | .plp | .plx
    | .ply | .tax | .tay | .txa | .tya | .tsx | .clc | .sec | .cli | .sei | .cld | .sed | .clv | .nop | .nop1 _
    | .nop2 _ | .nop3 _ | .wai | .stp => false

/-- The instructions that read SP, and so need it to hold a value (R219). -/
def Instr.readsSp (i : Instr) : Bool :=
  i.pushes || i.pulls || match i with
    | .tsx => true
    | .lda _ | .ldx _ | .ldy _ | .sta _ | .stx _ | .sty _ | .stz _ | .adc _ | .sbc _ | .cmp _ | .cpx _ | .cpy _
    | .inc _ | .dec _ | .inx | .iny | .dex | .dey | .and _ | .ora _ | .eor _ | .bit _ | .trb _ | .tsb _ | .rmb0 _
    | .rmb1 _ | .rmb2 _ | .rmb3 _ | .rmb4 _ | .rmb5 _ | .rmb6 _ | .rmb7 _ | .smb0 _ | .smb1 _ | .smb2 _ | .smb3 _
    | .smb4 _ | .smb5 _ | .smb6 _ | .smb7 _ | .asl _ | .lsr _ | .rol _ | .ror _ | .bcc _ | .bcs _ | .beq _ | .bne _
    | .bmi _ | .bpl _ | .bvc _ | .bvs _ | .bra _ | .bbr0 _ _ | .bbr1 _ _ | .bbr2 _ _ | .bbr3 _ _ | .bbr4 _ _
    | .bbr5 _ _ | .bbr6 _ _ | .bbr7 _ _ | .bbs0 _ _ | .bbs1 _ _ | .bbs2 _ _ | .bbs3 _ _ | .bbs4 _ _ | .bbs5 _ _
    | .bbs6 _ _ | .bbs7 _ _ | .jmp _ | .jsr _ | .rts | .brk | .rti | .pha | .php | .phx | .phy | .pla | .plp | .plx
    | .ply | .tax | .tay | .txa | .tya | .txs | .clc | .sec | .cli | .sei | .cld | .sed | .clv | .nop | .nop1 _
    | .nop2 _ | .nop3 _ | .wai | .stp => false

/-- The instructions whose rules write PC themselves (R90 step 5). -/
def Instr.writesPc : Instr → Bool
  | .bcc _ | .bcs _ | .beq _ | .bne _ | .bmi _ | .bpl _ | .bvc _ | .bvs _ | .bra _ => true
  | .bbr0 _ _ | .bbr1 _ _ | .bbr2 _ _ | .bbr3 _ _ | .bbr4 _ _ | .bbr5 _ _ | .bbr6 _ _ | .bbr7 _ _
  | .bbs0 _ _ | .bbs1 _ _ | .bbs2 _ _ | .bbs3 _ _ | .bbs4 _ _ | .bbs5 _ _ | .bbs6 _ _ | .bbs7 _ _ => true
  | .jmp _ | .jsr _ | .rts | .brk | .rti => true
  | .lda _ | .ldx _ | .ldy _ | .sta _ | .stx _ | .sty _ | .stz _ | .adc _ | .sbc _ | .cmp _ | .cpx _ | .cpy _ | .inc _
  | .dec _ | .inx | .iny | .dex | .dey | .and _ | .ora _ | .eor _ | .bit _ | .trb _ | .tsb _ | .rmb0 _ | .rmb1 _
  | .rmb2 _ | .rmb3 _ | .rmb4 _ | .rmb5 _ | .rmb6 _ | .rmb7 _ | .smb0 _ | .smb1 _ | .smb2 _ | .smb3 _ | .smb4 _
  | .smb5 _ | .smb6 _ | .smb7 _ | .asl _ | .lsr _ | .rol _ | .ror _ | .pha | .php | .phx | .phy | .pla | .plp | .plx
  | .ply | .tax | .tay | .txa | .tya | .tsx | .txs | .clc | .sec | .cli | .sei | .cld | .sed | .clv | .nop | .nop1 _
  | .nop2 _ | .nop3 _ | .wai | .stp => false

/-- The callers of the flag helper (R120). -/
def Instr.callsSetNZ : Instr → Bool
  | .lda _ | .ldx _ | .ldy _ | .adc _ | .sbc _ | .inc _ | .dec _ | .inx | .iny | .dex | .dey => true
  | .and _ | .ora _ | .eor _ | .asl _ | .lsr _ | .rol _ | .ror _ => true
  | .pla | .plx | .ply | .tax | .tay | .txa | .tya | .tsx => true
  | .sta _ | .stx _ | .sty _ | .stz _ | .cmp _ | .cpx _ | .cpy _ | .bit _ | .trb _ | .tsb _ | .rmb0 _ | .rmb1 _
  | .rmb2 _ | .rmb3 _ | .rmb4 _ | .rmb5 _ | .rmb6 _ | .rmb7 _ | .smb0 _ | .smb1 _ | .smb2 _ | .smb3 _ | .smb4 _
  | .smb5 _ | .smb6 _ | .smb7 _ | .bcc _ | .bcs _ | .beq _ | .bne _ | .bmi _ | .bpl _ | .bvc _ | .bvs _ | .bra _
  | .bbr0 _ _ | .bbr1 _ _ | .bbr2 _ _ | .bbr3 _ _ | .bbr4 _ _ | .bbr5 _ _ | .bbr6 _ _ | .bbr7 _ _ | .bbs0 _ _
  | .bbs1 _ _ | .bbs2 _ _ | .bbs3 _ _ | .bbs4 _ _ | .bbs5 _ _ | .bbs6 _ _ | .bbs7 _ _ | .jmp _ | .jsr _ | .rts | .brk
  | .rti | .pha | .php | .phx | .phy | .plp | .txs | .clc | .sec | .cli | .sei | .cld | .sed | .clv | .nop | .nop1 _
  | .nop2 _ | .nop3 _ | .wai | .stp => false

/-- The instructions that write Carry (R25). -/
def Instr.writesC : Instr → Bool
  | .adc _ | .sbc _ | .cmp _ | .cpx _ | .cpy _ | .asl _ | .lsr _ | .rol _ | .ror _ | .clc | .sec | .plp | .rti => true
  | .lda _ | .ldx _ | .ldy _ | .sta _ | .stx _ | .sty _ | .stz _ | .inc _ | .dec _ | .inx | .iny | .dex | .dey
  | .and _ | .ora _ | .eor _ | .bit _ | .trb _ | .tsb _ | .rmb0 _ | .rmb1 _ | .rmb2 _ | .rmb3 _ | .rmb4 _ | .rmb5 _
  | .rmb6 _ | .rmb7 _ | .smb0 _ | .smb1 _ | .smb2 _ | .smb3 _ | .smb4 _ | .smb5 _ | .smb6 _ | .smb7 _ | .bcc _
  | .bcs _ | .beq _ | .bne _ | .bmi _ | .bpl _ | .bvc _ | .bvs _ | .bra _ | .bbr0 _ _ | .bbr1 _ _ | .bbr2 _ _
  | .bbr3 _ _ | .bbr4 _ _ | .bbr5 _ _ | .bbr6 _ _ | .bbr7 _ _ | .bbs0 _ _ | .bbs1 _ _ | .bbs2 _ _ | .bbs3 _ _
  | .bbs4 _ _ | .bbs5 _ _ | .bbs6 _ _ | .bbs7 _ _ | .jmp _ | .jsr _ | .rts | .brk | .pha | .php | .phx | .phy | .pla
  | .plx | .ply | .tax | .tay | .txa | .tya | .tsx | .txs | .cli | .sei | .cld | .sed | .clv | .nop | .nop1 _
  | .nop2 _ | .nop3 _ | .wai | .stp => false

/-- The instructions that write Zero (R26). -/
def Instr.writesZ (i : Instr) : Bool :=
  i.callsSetNZ || match i with
    | .cmp _ | .cpx _ | .cpy _ | .bit _ | .trb _ | .tsb _ | .plp | .rti => true
    | .lda _ | .ldx _ | .ldy _ | .sta _ | .stx _ | .sty _ | .stz _ | .adc _ | .sbc _ | .inc _ | .dec _ | .inx | .iny
    | .dex | .dey | .and _ | .ora _ | .eor _ | .rmb0 _ | .rmb1 _ | .rmb2 _ | .rmb3 _ | .rmb4 _ | .rmb5 _ | .rmb6 _
    | .rmb7 _ | .smb0 _ | .smb1 _ | .smb2 _ | .smb3 _ | .smb4 _ | .smb5 _ | .smb6 _ | .smb7 _ | .asl _ | .lsr _
    | .rol _ | .ror _ | .bcc _ | .bcs _ | .beq _ | .bne _ | .bmi _ | .bpl _ | .bvc _ | .bvs _ | .bra _ | .bbr0 _ _
    | .bbr1 _ _ | .bbr2 _ _ | .bbr3 _ _ | .bbr4 _ _ | .bbr5 _ _ | .bbr6 _ _ | .bbr7 _ _ | .bbs0 _ _ | .bbs1 _ _
    | .bbs2 _ _ | .bbs3 _ _ | .bbs4 _ _ | .bbs5 _ _ | .bbs6 _ _ | .bbs7 _ _ | .jmp _ | .jsr _ | .rts | .brk | .pha
    | .php | .phx | .phy | .pla | .plx | .ply | .tax | .tay | .txa | .tya | .tsx | .txs | .clc | .sec | .cli | .sei
    | .cld | .sed | .clv | .nop | .nop1 _ | .nop2 _ | .nop3 _ | .wai | .stp => false

/-- The instructions that write Interrupt-disable (R27). -/
def Instr.writesI : Instr → Bool
  | .sei | .cli | .brk | .plp | .rti => true
  | .lda _ | .ldx _ | .ldy _ | .sta _ | .stx _ | .sty _ | .stz _ | .adc _ | .sbc _ | .cmp _ | .cpx _ | .cpy _ | .inc _
  | .dec _ | .inx | .iny | .dex | .dey | .and _ | .ora _ | .eor _ | .bit _ | .trb _ | .tsb _ | .rmb0 _ | .rmb1 _
  | .rmb2 _ | .rmb3 _ | .rmb4 _ | .rmb5 _ | .rmb6 _ | .rmb7 _ | .smb0 _ | .smb1 _ | .smb2 _ | .smb3 _ | .smb4 _
  | .smb5 _ | .smb6 _ | .smb7 _ | .asl _ | .lsr _ | .rol _ | .ror _ | .bcc _ | .bcs _ | .beq _ | .bne _ | .bmi _
  | .bpl _ | .bvc _ | .bvs _ | .bra _ | .bbr0 _ _ | .bbr1 _ _ | .bbr2 _ _ | .bbr3 _ _ | .bbr4 _ _ | .bbr5 _ _
  | .bbr6 _ _ | .bbr7 _ _ | .bbs0 _ _ | .bbs1 _ _ | .bbs2 _ _ | .bbs3 _ _ | .bbs4 _ _ | .bbs5 _ _ | .bbs6 _ _
  | .bbs7 _ _ | .jmp _ | .jsr _ | .rts | .pha | .php | .phx | .phy | .pla | .plx | .ply | .tax | .tay | .txa | .tya
  | .tsx | .txs | .clc | .sec | .cld | .sed | .clv | .nop | .nop1 _ | .nop2 _ | .nop3 _ | .wai | .stp => false

/-- The instructions that write Decimal (R28). -/
def Instr.writesD : Instr → Bool
  | .sed | .cld | .plp | .rti => true
  | .lda _ | .ldx _ | .ldy _ | .sta _ | .stx _ | .sty _ | .stz _ | .adc _ | .sbc _ | .cmp _ | .cpx _ | .cpy _ | .inc _
  | .dec _ | .inx | .iny | .dex | .dey | .and _ | .ora _ | .eor _ | .bit _ | .trb _ | .tsb _ | .rmb0 _ | .rmb1 _
  | .rmb2 _ | .rmb3 _ | .rmb4 _ | .rmb5 _ | .rmb6 _ | .rmb7 _ | .smb0 _ | .smb1 _ | .smb2 _ | .smb3 _ | .smb4 _
  | .smb5 _ | .smb6 _ | .smb7 _ | .asl _ | .lsr _ | .rol _ | .ror _ | .bcc _ | .bcs _ | .beq _ | .bne _ | .bmi _
  | .bpl _ | .bvc _ | .bvs _ | .bra _ | .bbr0 _ _ | .bbr1 _ _ | .bbr2 _ _ | .bbr3 _ _ | .bbr4 _ _ | .bbr5 _ _
  | .bbr6 _ _ | .bbr7 _ _ | .bbs0 _ _ | .bbs1 _ _ | .bbs2 _ _ | .bbs3 _ _ | .bbs4 _ _ | .bbs5 _ _ | .bbs6 _ _
  | .bbs7 _ _ | .jmp _ | .jsr _ | .rts | .brk | .pha | .php | .phx | .phy | .pla | .plx | .ply | .tax | .tay | .txa
  | .tya | .tsx | .txs | .clc | .sec | .cli | .sei | .clv | .nop | .nop1 _ | .nop2 _ | .nop3 _ | .wai | .stp => false

/-- The instructions that write Overflow (R29). -/
def Instr.writesV : Instr → Bool
  | .adc _ | .sbc _ | .bit _ | .clv | .plp | .rti => true
  | .lda _ | .ldx _ | .ldy _ | .sta _ | .stx _ | .sty _ | .stz _ | .cmp _ | .cpx _ | .cpy _ | .inc _ | .dec _ | .inx
  | .iny | .dex | .dey | .and _ | .ora _ | .eor _ | .trb _ | .tsb _ | .rmb0 _ | .rmb1 _ | .rmb2 _ | .rmb3 _ | .rmb4 _
  | .rmb5 _ | .rmb6 _ | .rmb7 _ | .smb0 _ | .smb1 _ | .smb2 _ | .smb3 _ | .smb4 _ | .smb5 _ | .smb6 _ | .smb7 _
  | .asl _ | .lsr _ | .rol _ | .ror _ | .bcc _ | .bcs _ | .beq _ | .bne _ | .bmi _ | .bpl _ | .bvc _ | .bvs _ | .bra _
  | .bbr0 _ _ | .bbr1 _ _ | .bbr2 _ _ | .bbr3 _ _ | .bbr4 _ _ | .bbr5 _ _ | .bbr6 _ _ | .bbr7 _ _ | .bbs0 _ _
  | .bbs1 _ _ | .bbs2 _ _ | .bbs3 _ _ | .bbs4 _ _ | .bbs5 _ _ | .bbs6 _ _ | .bbs7 _ _ | .jmp _ | .jsr _ | .rts | .brk
  | .pha | .php | .phx | .phy | .pla | .plx | .ply | .tax | .tay | .txa | .tya | .tsx | .txs | .clc | .sec | .cli
  | .sei | .cld | .sed | .nop | .nop1 _ | .nop2 _ | .nop3 _ | .wai | .stp => false

/-- The instructions that write Negative (R30). -/
def Instr.writesN (i : Instr) : Bool :=
  i.callsSetNZ || match i with
    | .cmp _ | .cpx _ | .cpy _ | .bit _ | .plp | .rti => true
    | .lda _ | .ldx _ | .ldy _ | .sta _ | .stx _ | .sty _ | .stz _ | .adc _ | .sbc _ | .inc _ | .dec _ | .inx | .iny
    | .dex | .dey | .and _ | .ora _ | .eor _ | .trb _ | .tsb _ | .rmb0 _ | .rmb1 _ | .rmb2 _ | .rmb3 _ | .rmb4 _
    | .rmb5 _ | .rmb6 _ | .rmb7 _ | .smb0 _ | .smb1 _ | .smb2 _ | .smb3 _ | .smb4 _ | .smb5 _ | .smb6 _ | .smb7 _
    | .asl _ | .lsr _ | .rol _ | .ror _ | .bcc _ | .bcs _ | .beq _ | .bne _ | .bmi _ | .bpl _ | .bvc _ | .bvs _
    | .bra _ | .bbr0 _ _ | .bbr1 _ _ | .bbr2 _ _ | .bbr3 _ _ | .bbr4 _ _ | .bbr5 _ _ | .bbr6 _ _ | .bbr7 _ _
    | .bbs0 _ _ | .bbs1 _ _ | .bbs2 _ _ | .bbs3 _ _ | .bbs4 _ _ | .bbs5 _ _ | .bbs6 _ _ | .bbs7 _ _ | .jmp _ | .jsr _
    | .rts | .brk | .pha | .php | .phx | .phy | .pla | .plx | .ply | .tax | .tay | .txa | .tya | .tsx | .txs | .clc
    | .sec | .cli | .sei | .cld | .sed | .clv | .nop | .nop1 _ | .nop2 _ | .nop3 _ | .wai | .stp => false

/-- The instructions whose meaning makes a bus access beyond the fetch (R106). -/
def Instr.accessesBus : Instr → Bool
  | .lda (.mem _) | .ldx (.mem _) | .ldy (.mem _) | .sta _ | .stx _ | .sty _ | .stz _ | .adc (.mem _) | .sbc (.mem _)
  | .cmp (.mem _) | .cpx (.mem _) | .cpy (.mem _) | .inc (.mem _) | .dec (.mem _) | .and (.mem _) | .ora (.mem _)
  | .eor (.mem _) | .bit (.mem _) | .trb _ | .tsb _ | .asl (.mem _) | .lsr (.mem _) | .rol (.mem _) | .ror (.mem _) => true
  | .rmb0 _ | .rmb1 _ | .rmb2 _ | .rmb3 _ | .rmb4 _ | .rmb5 _ | .rmb6 _ | .rmb7 _
  | .smb0 _ | .smb1 _ | .smb2 _ | .smb3 _ | .smb4 _ | .smb5 _ | .smb6 _ | .smb7 _ => true
  | .bbr0 _ _ | .bbr1 _ _ | .bbr2 _ _ | .bbr3 _ _ | .bbr4 _ _ | .bbr5 _ _ | .bbr6 _ _ | .bbr7 _ _
  | .bbs0 _ _ | .bbs1 _ _ | .bbs2 _ _ | .bbs3 _ _ | .bbs4 _ _ | .bbs5 _ _ | .bbs6 _ _ | .bbs7 _ _ => true
  | .jmp (.ind _) | .jmp (.aix _) | .jsr _ | .rts | .brk | .rti => true
  | .pha | .php | .phx | .phy | .pla | .plp | .plx | .ply => true
  | .lda (.imm _) | .ldx (.imm _) | .ldy (.imm _) | .adc (.imm _) | .sbc (.imm _) | .cmp (.imm _) | .cpx (.imm _)
  | .cpy (.imm _) | .inc .acc | .dec .acc | .inx | .iny | .dex | .dey | .and (.imm _) | .ora (.imm _) | .eor (.imm _)
  | .bit (.imm _) | .asl .acc | .lsr .acc | .rol .acc | .ror .acc | .bcc _ | .bcs _ | .beq _ | .bne _ | .bmi _ | .bpl _
  | .bvc _ | .bvs _ | .bra _ | .jmp (.abs _) | .tax | .tay | .txa | .tya | .tsx | .txs | .clc | .sec | .cli | .sei
  | .cld | .sed | .clv | .nop | .nop1 _ | .nop2 _ | .nop3 _ | .wai | .stp => false

/-- The memory operand an instruction writes (R113-R116, R130, R131, R144-R151). -/
def Instr.destination : Instr → Option Address
  | .sta d | .stx d | .sty d | .stz d | .trb d | .tsb d => some d
  | .inc (.mem d) | .dec (.mem d) | .asl (.mem d) | .lsr (.mem d) | .rol (.mem d) | .ror (.mem d) => some d
  | .rmb0 z | .rmb1 z | .rmb2 z | .rmb3 z | .rmb4 z | .rmb5 z | .rmb6 z | .rmb7 z
  | .smb0 z | .smb1 z | .smb2 z | .smb3 z | .smb4 z | .smb5 z | .smb6 z | .smb7 z => some (.zp z)
  | .lda _ | .ldx _ | .ldy _ | .adc _ | .sbc _ | .cmp _ | .cpx _ | .cpy _ | .inc .acc | .dec .acc | .inx | .iny | .dex
  | .dey | .and _ | .ora _ | .eor _ | .bit _ | .asl .acc | .lsr .acc | .rol .acc | .ror .acc | .bcc _ | .bcs _
  | .beq _ | .bne _ | .bmi _ | .bpl _ | .bvc _ | .bvs _ | .bra _ | .bbr0 _ _ | .bbr1 _ _ | .bbr2 _ _ | .bbr3 _ _
  | .bbr4 _ _ | .bbr5 _ _ | .bbr6 _ _ | .bbr7 _ _ | .bbs0 _ _ | .bbs1 _ _ | .bbs2 _ _ | .bbs3 _ _ | .bbs4 _ _
  | .bbs5 _ _ | .bbs6 _ _ | .bbs7 _ _ | .jmp _ | .jsr _ | .rts | .brk | .rti | .pha | .php | .phx | .phy | .pla | .plp
  | .plx | .ply | .tax | .tay | .txa | .tya | .tsx | .txs | .clc | .sec | .cli | .sei | .cld | .sed | .clv | .nop
  | .nop1 _ | .nop2 _ | .nop3 _ | .wai | .stp => none

end Sys2Proof

namespace Sys2Proof.Machine

/-- Reading the disk data port `n` times: the bytes in order (R225). -/
def readPort : Nat → State → Res (List Byte)
  | 0, s => .ok [] s
  | n + 1, s => (diskRead 0 s).bind fun v s1 => (readPort n s1).bind fun vs s2 => .ok (v :: vs) s2

/-- `n` ticks of the timer (R241). -/
def ticks : Nat → Timer → Timer
  | 0, t => t
  | n + 1, t => ticks n t.tick

/-- A byte holding two decimal digits (R122). -/
def bcd (hi lo : Nat) : Byte := BitVec.ofNat 8 (16 * hi + lo)

/-- The end of a run (R264): Stopped, or at the terminal instruction `endPc` while Executing. The machine does not stop there. -/
def State.endOfRun (endPc : Addr) (s : State) : Bool :=
  s.cpuMode == .stopped || (s.pc == endPc && s.cpuMode == .executing)

/-- The outcome of `n` steps, each with the commands that have arrived at its boundary (R258, R265). -/
def runSteps : Nat → State → Host.Outcome State Fault Refusal
  | 0, s => .next s
  | n + 1, s =>
    match step s with
    | .next t => runSteps n t
    | .fault f => .fault f
    | .refused r => .refused r

/-- The run from `s` ends at step boundary `n` (R264): the first boundary whose state is at the end of a run. DESIGN CHOICE (log entry
23): the state of a boundary is tested before the commands pending there are applied, so a Stopped state with a Reset pending is
an end; and the state the run starts from is boundary 0. -/
def endsAt (endPc : Addr) (n : Nat) (s : State) : Prop :=
  (∃ t, runSteps n s = .next t ∧ t.endOfRun endPc = true) ∧
  ∀ k, k < n → ∀ t, runSteps k s = .next t → t.endOfRun endPc = false

/-- A safe step: it does not end in a fault or a refusal. -/
def stepsSafely (s : State) : Prop := ∃ t, step s = .next t

end Sys2Proof.Machine
end

