-- ==== Sys2Proof/Certificates/Slice0/Obligations.lean ====
section
/-! DEFINITION. The statements for the provers, one definition each, from the numbered rules of spec/. -/

open Sys2Proof Sys2Proof.Machine

/-- Decoding the encoding of a well-formed instruction gives it back, whatever follows (30_encoding.md R70-R78). Decisions the
spec marks as its own: R71 (D11), R76 (D28), R77 (D1). General knowledge the spec marks: R73, R74, R75, R76. -/
def Obligations.EncodeThenDecodeIsIdentity : Prop :=
  ∀ (ext : Bool) (i : Instr), i.wellFormed ext = true →
    ∃ bs, encode i = some bs ∧ bs.length = i.length ∧ ∀ rest, decode ext (bs ++ rest) = .ok (i, rest)

/-- Every opcode byte decodes to a well-formed instruction whose encoding has that opcode and the operand bytes read
(30_encoding.md R74, R76, R77, R78). Decisions the spec marks as its own: R76 (D28), R77 (D1). General knowledge the spec marks:
R74, R76. -/
def Obligations.DecodedInstructionsAreWellFormedAndReencode : Prop :=
  ∀ (ext : Bool) (op b1 b2 : Byte),
    (decodeBytes ext op b1 b2).wellFormed ext = true ∧
    (decodeBytes ext op b1 b2).opcode = some op ∧
    (decodeBytes ext op b1 b2).operandBytes.take (operandReadsOf ext op) = [b1, b2].take (operandReadsOf ext op)

/-- An instruction length is 1, 2 or 3 and depends on the opcode byte alone; 66, 117 and 73 opcodes have each (30_encoding.md
R70, R78). -/
def Obligations.LengthDependsOnTheOpcodeAlone : Prop :=
  (∀ (ext : Bool) (op b1 b2 : Byte),
    (decodeBytes ext op b1 b2).length = (decodeBytes ext op 0 0).length ∧
    (decodeBytes ext op b1 b2).operandReads = operandReadsOf ext op ∧
    1 ≤ (decodeBytes ext op b1 b2).length ∧ (decodeBytes ext op b1 b2).length ≤ 3) ∧
  ∀ ext : Bool,
    ((List.range 256).map fun n => (decodeBytes ext (BitVec.ofNat 8 n) 0 0).length).count 1 = 66 ∧
    ((List.range 256).map fun n => (decodeBytes ext (BitVec.ofNat 8 n) 0 0).length).count 2 = 117 ∧
    ((List.range 256).map fun n => (decodeBytes ext (BitVec.ofNat 8 n) 0 0).length).count 3 = 73

/-- The 23 unnamed opcodes are their W65C02S instructions when WDC_UNNAMED_EXT is true and NOPs of their length when false
(30_encoding.md R77). Decisions the spec marks as its own: R77 (D1). -/
def Obligations.UnnamedOpcodesFollowTheirParameter : Prop :=
  ∀ b1 b2 : Byte,
    (∀ n : Fin 8, decodeBytes true (BitVec.ofNat 8 (0x07 + 16 * n.val)) b1 b2 = rmbInstr n b1 ∧
      decodeBytes true (BitVec.ofNat 8 (0x87 + 16 * n.val)) b1 b2 = smbInstr n b1 ∧
      decodeBytes false (BitVec.ofNat 8 (0x07 + 16 * n.val)) b1 b2 = .nop2 (BitVec.ofNat 8 (0x07 + 16 * n.val)) ∧
      decodeBytes false (BitVec.ofNat 8 (0x87 + 16 * n.val)) b1 b2 = .nop2 (BitVec.ofNat 8 (0x87 + 16 * n.val))) ∧
    decodeBytes true 0x89 b1 b2 = .bit (.imm b1) ∧ decodeBytes false 0x89 b1 b2 = .nop2 0x89 ∧
    decodeBytes true 0x34 b1 b2 = .bit (.mem (.zpx b1)) ∧ decodeBytes false 0x34 b1 b2 = .nop2 0x34 ∧
    decodeBytes true 0x3C b1 b2 = .bit (.mem (.absx (word b2 b1))) ∧ decodeBytes false 0x3C b1 b2 = .nop3 0x3C ∧
    decodeBytes true 0x1A b1 b2 = .inc .acc ∧ decodeBytes false 0x1A b1 b2 = .nop1 0x1A ∧
    decodeBytes true 0x3A b1 b2 = .dec .acc ∧ decodeBytes false 0x3A b1 b2 = .nop1 0x3A ∧
    decodeBytes true 0xCB b1 b2 = .wai ∧ decodeBytes false 0xCB b1 b2 = .nop1 0xCB ∧
    decodeBytes true 0xDB b1 b2 = .stp ∧ decodeBytes false 0xDB b1 b2 = .nop1 0xDB ∧
    ∀ op : Byte, op.toNat % 16 ≠ 7 → op ∉ [0x89, 0x34, 0x3C, 0x1A, 0x3A, 0xCB, 0xDB] →
      decodeBytes false op b1 b2 = decodeBytes true op b1 b2

/-- One written-out word of each family decodes to the instruction it stands for (30_encoding.md R71, R74). Decisions the spec
marks as its own: R71 (D11). General knowledge the spec marks: R74. -/
def Obligations.SampleWordsDecodeToTheirInstructions : Prop :=
  decodeTableWord 16 0x42A9 = some (.lda (.imm 0x42)) ∧ decodeTableWord 24 0x12349D = some (.sta (.absx 0x1234)) ∧
  decodeTableWord 16 0x4071 = some (.adc (.mem (.izy 0x40))) ∧ decodeTableWord 16 0x40D2 = some (.cmp (.mem (.izp 0x40))) ∧
  decodeTableWord 8 0x1A = some (.inc .acc) ∧ decodeTableWord 16 0x2021 = some (.and (.mem (.izx 0x20))) ∧
  decodeTableWord 24 0x30002C = some (.bit (.mem (.abs 0x3000))) ∧ decodeTableWord 16 0x2037 = some (.rmb3 0x20) ∧
  decodeTableWord 16 0x20F7 = some (.smb7 0x20) ∧ decodeTableWord 16 0x1016 = some (.asl (.mem (.zpx 0x10))) ∧
  decodeTableWord 16 0xFED0 = some (.bne 0xFE) ∧ decodeTableWord 24 0x05100F = some (.bbr0 0x10 0x05) ∧
  decodeTableWord 24 0xFD10FF = some (.bbs7 0x10 0xFD) ∧ decodeTableWord 24 0x12FF6C = some (.jmp (.ind 0x12FF)) ∧
  decodeTableWord 24 0x123420 = some (.jsr 0x1234) ∧ decodeTableWord 8 0x48 = some .pha ∧ decodeTableWord 8 0xAA = some .tax ∧
  decodeTableWord 8 0x78 = some .sei ∧ decodeTableWord 24 0x12345C = some (.nop3 0x5C)

/-- On plain addresses a bus read after a bus write gives the byte written there and the old byte elsewhere (20_memory.md R43,
R44, R57). Decisions the spec marks as its own: R43 (D18). -/
def Obligations.BusReadReturnsTheMostRecentWrite : Prop :=
  ∀ (s : State) (a b : Addr) (v : Byte), isPlain s.cfg a = true → isPlain s.cfg b = true →
    ∃ t, busWrite a v s = .ok () t ∧ busRead b t = .ok (if b = a then v else s.mem.get b.toNat) t

/-- In a well-formed configuration a bus read is answered by the window that holds the address, else by flat storage
(20_memory.md R43). Decisions the spec marks as its own: R43 (D18). -/
def Obligations.BusReadAnswersByWindow : Prop :=
  ∀ (s : State) (a : Addr), s.cfg.wf = true →
    (s.cfg.diskAttached = true → ∀ n, n < 8 → a.toNat = s.cfg.diskBase.toNat + n → busRead a s = diskRead n s) ∧
    (a = s.cfg.serialIn → busRead a s = .ok (s.mem.get a.toNat) { s with mem := s.mem.set s.cfg.serialReady.toNat 0x00 }) ∧
    (a = s.cfg.serialOut ∨ a = s.cfg.serialReady → busRead a s = .ok (s.mem.get a.toNat) s) ∧
    (s.cfg.viaPresent = true → ∀ n, n < 16 → a.toNat = s.cfg.viaBase.toNat + n → busRead a s = timerRead n s) ∧
    (a ∈ s.cfg.nullWindows → busRead a s = .ok 0x00 s) ∧
    ((s.cfg.diskAttached = true → ¬(s.cfg.diskBase.toNat ≤ a.toNat ∧ a.toNat ≤ s.cfg.diskBase.toNat + 7)) →
      (s.cfg.viaPresent = true → ¬(s.cfg.viaBase.toNat ≤ a.toNat ∧ a.toNat ≤ s.cfg.viaBase.toNat + 15)) →
      a ≠ s.cfg.serialOut → a ≠ s.cfg.serialIn → a ≠ s.cfg.serialReady → a ∉ s.cfg.nullWindows →
      busRead a s = .ok (s.mem.get a.toNat) s)

/-- In a well-formed configuration a bus write goes to the window that holds the address, else to flat storage. Every write of
the serial output emits its byte (R249), and a send to a receiver that is gone is dropped (R260); the fields receiver and
delivered are the model form of that (log entry 13) (20_memory.md R44, 60_exceptions.md R249, R260). -/
def Obligations.BusWriteGoesToItsWindow : Prop :=
  ∀ (s : State) (a : Addr) (v : Byte), s.cfg.wf = true →
    (s.cfg.diskAttached = true → ∀ n, n < 8 → a.toNat = s.cfg.diskBase.toNat + n → busWrite a v s = diskWrite n v s) ∧
    (a = s.cfg.serialOut →
      busWrite a v s = .ok () { s with
        mem := s.mem.set a.toNat v, events := s.events ++ [.outputByte v]
        delivered := s.delivered ++ s.receiver.arrivals s.events.length [.outputByte v] }) ∧
    (a = s.cfg.serialIn ∨ a = s.cfg.serialReady → busWrite a v s = .ok () { s with mem := s.mem.set a.toNat v }) ∧
    (s.cfg.viaPresent = true → ∀ n, n < 16 → a.toNat = s.cfg.viaBase.toNat + n → busWrite a v s = .ok () { s with timer := s.timer.write n v }) ∧
    (a ∈ s.cfg.nullWindows → busWrite a v s = .ok () s) ∧
    ((s.cfg.diskAttached = true → ¬(s.cfg.diskBase.toNat ≤ a.toNat ∧ a.toNat ≤ s.cfg.diskBase.toNat + 7)) →
      (s.cfg.viaPresent = true → ¬(s.cfg.viaBase.toNat ≤ a.toNat ∧ a.toNat ≤ s.cfg.viaBase.toNat + 15)) →
      a ≠ s.cfg.serialOut → a ≠ s.cfg.serialIn → a ≠ s.cfg.serialReady → a ∉ s.cfg.nullWindows →
      busWrite a v s = .ok () { s with mem := s.mem.set a.toNat v })

/-- A word read takes the low byte first and wraps at 16 bits, a zero-page word read wraps in the page (20_memory.md R47, R48).
Decisions the spec marks as its own: R47 (D9), R48 (D7). -/
def Obligations.WordReadsAreLittleEndianAndWrap : Prop :=
  (∀ (a b : Addr) (s s1 s2 : State) (lo hi : Byte), b.toNat = (a.toNat + 1) % 65536 →
    busRead a s = .ok lo s1 → busRead b s1 = .ok hi s2 →
    ∃ w, busRead16 a s = .ok w s2 ∧ w.toNat = 256 * hi.toNat + lo.toNat) ∧
  (∀ (p : Byte) (a b : Addr) (s s1 s2 : State) (lo hi : Byte), a.toNat = p.toNat → b.toNat = (p.toNat + 1) % 256 →
    busRead a s = .ok lo s1 → busRead b s1 = .ok hi s2 →
    ∃ w, busRead16zp p s = .ok w s2 ∧ w.toNat = 256 * hi.toNat + lo.toNat)

/-- Push writes at 0x0100+SP then decrements SP; pull increments SP then reads at 0x0100+SP, with 8-bit wrap (R52, R53). -/
def Obligations.PushAndPullMoveThroughPageOne : Prop :=
  (∀ (v : Byte) (a : Addr) (s s1 : State), s.spHeld = true → a.toNat = 0x0100 + s.sp.toNat →
    busWrite a v s = .ok () s1 →
    push v s = .ok () { s1 with sp := BitVec.ofNat 8 (s.sp.toNat + 255), spHeld := true }) ∧
  (∀ (v : Byte) (a : Addr) (s s1 : State), s.spHeld = true → a.toNat = 0x0100 + (s.sp.toNat + 1) % 256 →
    busRead a { s with sp := BitVec.ofNat 8 (s.sp.toNat + 1), spHeld := true } = .ok v s1 → pull s = .ok v s1)

/-- A pushed word lies high byte above low byte in page 1 and is pulled back, SP restored (20_memory.md R54). -/
def Obligations.PushedWordsReadBackLittleEndian : Prop :=
  ∀ (w : Addr) (s : State), s.spHeld = true →
    isPlain s.cfg (stackAddr s.sp) = true → isPlain s.cfg (stackAddr (s.sp - 1)) = true →
    ∃ t u, pushWord w s = .ok () t ∧ t.sp = s.sp - 2 ∧
      t.mem.get (stackAddr s.sp).toNat = w.extractLsb' 8 8 ∧ t.mem.get (stackAddr (s.sp - 1)).toNat = w.extractLsb' 0 8 ∧
      pullWord t = .ok w u ∧ u.sp = s.sp ∧ u.mem = t.mem

/-- Each memory mode computes the effective address its rule gives, with zero-page and 16-bit wrap (40_addressing.md R94-R102).
Decisions the spec marks as its own: R100 (D7), R101 (D7). -/
def Obligations.AddressingModesComputeTheirAddress : Prop :=
  ∀ (s : State) (z : Byte) (w : Addr),
    (∃ ea, effectiveAddress (.zp z) s = .ok ea s ∧ ea.toNat = z.toNat) ∧
    (∃ ea, effectiveAddress (.zpx z) s = .ok ea s ∧ ea.toNat = (z.toNat + s.x.toNat) % 256) ∧
    (∃ ea, effectiveAddress (.zpy z) s = .ok ea s ∧ ea.toNat = (z.toNat + s.y.toNat) % 256) ∧
    effectiveAddress (.abs w) s = .ok w s ∧
    (∃ ea, effectiveAddress (.absx w) s = .ok ea s ∧ ea.toNat = (w.toNat + s.x.toNat) % 65536) ∧
    (∃ ea, effectiveAddress (.absy w) s = .ok ea s ∧ ea.toNat = (w.toNat + s.y.toNat) % 65536) ∧
    (∀ ea t, busRead16zp (z + s.x) s = .ok ea t → effectiveAddress (.izx z) s = .ok ea t) ∧
    (∀ ea t, busRead16zp z s = .ok ea t → effectiveAddress (.izp z) s = .ok ea t) ∧
    (∀ base t, busRead16zp z s = .ok base t →
      ∃ ea, effectiveAddress (.izy z) s = .ok ea t ∧ ea.toNat = (base.toNat + s.y.toNat) % 65536) ∧
    (∀ m ∈ [Address.zp z, .zpx z, .zpy z, .izx z, .izy z, .izp z], 1 + m.bytes = 2) ∧
    (∀ m ∈ [Address.abs w, .absx w, .absy w], 1 + m.bytes = 3)

/-- A fetch reads the opcode at PC, then only the operand bytes its form has, in order, each once through the bus
(40_addressing.md R90, R106). Decisions the spec marks as its own: R90 (D10), R106 (D10). -/
def Obligations.FetchReadsTheOpcodeThenTheOperandBytes : Prop :=
  (∀ (s s1 : State) (op : Byte), busRead s.pc s = .ok op s1 →
    (operandReadsOf s.cfg.wdcUnnamedExt op = 0 →
      fetch s = .ok (decodeBytes s.cfg.wdcUnnamedExt op 0 0) { s1 with currentInstruction := op }) ∧
    (operandReadsOf s.cfg.wdcUnnamedExt op = 1 → ∀ b1 s2,
      busRead (s.pc + 1) { s1 with currentInstruction := op } = .ok b1 s2 →
      fetch s = .ok (decodeBytes s.cfg.wdcUnnamedExt op b1 0) s2) ∧
    (operandReadsOf s.cfg.wdcUnnamedExt op = 2 → ∀ b1 s2 b2 s3,
      busRead (s.pc + 1) { s1 with currentInstruction := op } = .ok b1 s2 → busRead (s.pc + 2) s2 = .ok b2 s3 →
      fetch s = .ok (decodeBytes s.cfg.wdcUnnamedExt op b1 b2) s3)) ∧
  ∀ op : Byte, Instr.brk.operandReads = 0 ∧ (Instr.nop1 op).operandReads = 0 ∧ (Instr.nop2 op).operandReads = 0 ∧
    (Instr.nop3 op).operandReads = 0

/-- LDA, LDX and LDY load the operand byte, set N and Z by the flag helper and pass their bytes (R110, R111, R112). -/
def Obligations.LoadsWriteTheirRegisterAndNZ : Prop :=
  (∀ v w,
    (sourceForms v w).map (fun o => (Instr.lda o).opcode) =
      [some 0xA9, some 0xA5, some 0xB5, none, some 0xA1, some 0xB1, some 0xB2, some 0xAD, some 0xBD, some 0xB9] ∧
    (sourceForms v w).map (fun o => (Instr.ldx o).opcode) =
      [some 0xA2, some 0xA6, none, some 0xB6, none, none, none, some 0xAE, none, some 0xBE] ∧
    (sourceForms v w).map (fun o => (Instr.ldy o).opcode) =
      [some 0xA0, some 0xA4, some 0xB4, none, none, none, none, some 0xAC, some 0xBC, none]) ∧
  ∀ (src : Source) (s s1 : State) (m : Byte), readSource src s = .ok m s1 →
    exec (.lda src) s = .next (State.framed (1 + src.bytes) { s1 with a := m, p := setNZ m s1.p }) ∧
    exec (.ldx src) s = .next (State.framed (1 + src.bytes) { s1 with x := m, p := setNZ m s1.p }) ∧
    exec (.ldy src) s = .next (State.framed (1 + src.bytes) { s1 with y := m, p := setNZ m s1.p })

/-- STA, STX, STY and STZ write A, X, Y or zero at the effective address, read nothing there and change no flag (R113, R114,
R115). Its clauses for R116 are not cited as stated. General knowledge the spec marks: R116. -/
def Obligations.StoresWriteTheirByteAndNoFlag : Prop :=
  (∀ v w,
    (addressForms v w).map (fun o => (Instr.sta o).opcode) =
      [some 0x85, some 0x95, none, some 0x81, some 0x91, some 0x92, some 0x8D, some 0x9D, some 0x99] ∧
    (addressForms v w).map (fun o => (Instr.stx o).opcode) =
      [some 0x86, none, some 0x96, none, none, none, some 0x8E, none, none] ∧
    (addressForms v w).map (fun o => (Instr.sty o).opcode) =
      [some 0x84, some 0x94, none, none, none, none, some 0x8C, none, none] ∧
    (addressForms v w).map (fun o => (Instr.stz o).opcode) =
      [some 0x64, some 0x74, none, none, none, none, some 0x9C, some 0x9E, none]) ∧
  ∀ (dst : Address) (s s1 s2 : State) (ea : Addr), effectiveAddress dst s = .ok ea s1 →
    (busWrite ea s.a s1 = .ok () s2 → exec (.sta dst) s = .next (State.framed (1 + dst.bytes) s2)) ∧
    (busWrite ea s.x s1 = .ok () s2 → exec (.stx dst) s = .next (State.framed (1 + dst.bytes) s2)) ∧
    (busWrite ea s.y s1 = .ok () s2 → exec (.sty dst) s = .next (State.framed (1 + dst.bytes) s2)) ∧
    (busWrite ea 0x00 s1 = .ok () s2 → exec (.stz dst) s = .next (State.framed (1 + dst.bytes) s2))

/-- setNZ sets Z where the byte is 0, N to bit 7, forces bits 4 and 5, and leaves C, V, D and I (42_arithmetic.md R120).
Decisions the spec marks as its own: R120 (D31). -/
def Obligations.FlagHelperSetsZeroNegativeAndTheReservedBits : Prop :=
  ∀ v p : Byte,
    getFlag .zero (setNZ v p) = decide (v.toNat = 0) ∧ getFlag .negative (setNZ v p) = decide (128 ≤ v.toNat) ∧
    setNZ v p &&& 0x30 = 0x30 ∧ setNZ v p &&& 0x4D = p &&& 0x4D

/-- addBin gives the sum mod 256, the carry out of 8 bits, and overflow exactly where like signs give the opposite sign (R121).
-/
def Obligations.BinaryAdderIsANineBitSum : Prop :=
  ∀ (a m : Byte) (c : Bool),
    (addBin a m c).value.toNat = (a.toNat + m.toNat + c.toNat) % 256 ∧
    (addBin a m c).carry = decide (a.toNat + m.toNat + c.toNat > 255) ∧
    (addBin a m c).overflow = (a.msb == m.msb && (addBin a m c).value.msb != a.msb) ∧
    ((addBin a m c).overflow = true ↔ a.toInt + m.toInt + c.toNat < -128 ∨ a.toInt + m.toInt + c.toNat > 127)

/-- addDec and subDec give R122's and R123's value, carry and V' on every byte, and on BCD digits decimal sum and difference
(42_arithmetic.md R122, R123). Decisions the spec marks as its own: R122 (D4, D5), R123 (D4, D5). General knowledge the spec
marks: R122, R123. -/
def Obligations.DecimalAddersAreBcdArithmetic : Prop :=
  (∀ (a m : Byte) (c : Bool) (l t : Nat), l = a.toNat % 16 + m.toNat % 16 + c.toNat →
    t = (if l < 10 then l else 16 + (l + 6) % 16) + a.toNat / 16 * 16 + m.toNat / 16 * 16 →
    (addDec a m c).value.toNat = (if t < 160 then t else t + 96) % 256 ∧ (addDec a m c).carry = decide (160 ≤ t) ∧
    (addDec a m c).overflow = (a.msb == m.msb && decide (128 ≤ t ∧ t < 384))) ∧
  (∀ (a m : Byte) (c : Bool) (l w : Int), l = 15 + a.toNat % 16 - m.toNat % 16 + c.toNat →
    w = (if l < 16 then 0 else 16) + 240 + a.toNat / 16 * 16 - m.toNat / 16 * 16 →
    (subDec a m c).value =
      BitVec.ofInt 8 ((if w < 256 then w - 96 else w) + (if l < 16 then l - 6 else l - 16)) ∧
    (subDec a m c).carry = decide (256 ≤ w) ∧
    (subDec a m c).overflow = (a.msb != m.msb && decide (128 ≤ w ∧ w < 384))) ∧
  ∀ (ah al mh ml : Nat) (c : Bool), ah < 10 → al < 10 → mh < 10 → ml < 10 →
    (addDec (bcd ah al) (bcd mh ml) c).value =
      bcd ((10 * ah + al + (10 * mh + ml) + c.toNat) % 100 / 10) ((10 * ah + al + (10 * mh + ml) + c.toNat) % 10) ∧
    (addDec (bcd ah al) (bcd mh ml) c).carry = decide (100 ≤ 10 * ah + al + (10 * mh + ml) + c.toNat) ∧
    (subDec (bcd ah al) (bcd mh ml) c).value =
      bcd ((100 + (10 * ah + al) + c.toNat - (10 * mh + ml) - 1) % 100 / 10)
        ((100 + (10 * ah + al) + c.toNat - (10 * mh + ml) - 1) % 10) ∧
    (subDec (bcd ah al) (bcd mh ml) c).carry = decide (10 * mh + ml + 1 ≤ 10 * ah + al + c.toNat)

/-- ADC and SBC write the binary or decimal adder result to A, and C, V, N, Z. Under DEC_V = draw V is free after a decimal one
(D5), drawn by the count of the model field drawCount (log entry 6) (42_arithmetic.md R122, R123, R124, R125). Decisions the
spec marks as its own: R122 (D4, D5), R123 (D4, D5). General knowledge the spec marks: R122, R123. -/
def Obligations.AdcAndSbcWriteTheAdderResult : Prop :=
  (∀ v w,
    (sourceForms v w).map (fun o => (Instr.adc o).opcode) =
      [some 0x69, some 0x65, some 0x75, none, some 0x61, some 0x71, some 0x72, some 0x6D, some 0x7D, some 0x79] ∧
    (sourceForms v w).map (fun o => (Instr.sbc o).opcode) =
      [some 0xE9, some 0xE5, some 0xF5, none, some 0xE1, some 0xF1, some 0xF2, some 0xED, some 0xFD, some 0xF9]) ∧
  ∀ (src : Source) (s s1 : State) (m : Byte) (r : AluResult), readSource src s = .ok m s1 →
    (r = (if getFlag .decimal s.p then addDec s.a m (getFlag .carry s.p) else addBin s.a m (getFlag .carry s.p)) →
      (getFlag .decimal s.p = false ∨ s.cfg.decV = .rule →
        exec (.adc src) s = .next (State.framed (1 + src.bytes)
          { s1 with a := r.value, p := setNZ r.value (putFlag .overflow r.overflow (putFlag .carry r.carry s1.p)) })) ∧
      (getFlag .decimal s.p = true → s.cfg.decV = .draw →
        ∃ v, exec (.adc src) s = .next (State.framed (1 + src.bytes)
          { s1 with a := r.value, p := setNZ r.value (putFlag .overflow v (putFlag .carry r.carry s1.p)), drawCount := s1.drawCount + 1 }))) ∧
    (r = (if getFlag .decimal s.p then subDec s.a m (getFlag .carry s.p) else addBin s.a (m ^^^ 0xFF) (getFlag .carry s.p)) →
      (getFlag .decimal s.p = false ∨ s.cfg.decV = .rule →
        exec (.sbc src) s = .next (State.framed (1 + src.bytes)
          { s1 with a := r.value, p := setNZ r.value (putFlag .overflow r.overflow (putFlag .carry r.carry s1.p)) })) ∧
      (getFlag .decimal s.p = true → s.cfg.decV = .draw →
        ∃ v, exec (.sbc src) s = .next (State.framed (1 + src.bytes)
          { s1 with a := r.value, p := setNZ r.value (putFlag .overflow v (putFlag .carry r.carry s1.p)), drawCount := s1.drawCount + 1 })))

/-- compare sets Z, C and N by the unsigned comparison under exclusive, and N to bit 7 of the difference under silicon
(42_arithmetic.md R126). Decisions the spec marks as its own: R126 (D3). General knowledge the spec marks: R126. -/
def Obligations.CompareHelperSetsNegativeZeroCarry : Prop :=
  ∀ (r m p : Byte),
    (r = m → getFlag .zero (compareFlags .exclusive r m p) = true ∧ getFlag .carry (compareFlags .exclusive r m p) = true ∧
      getFlag .negative (compareFlags .exclusive r m p) = false) ∧
    (r.toNat > m.toNat → getFlag .zero (compareFlags .exclusive r m p) = false ∧
      getFlag .carry (compareFlags .exclusive r m p) = true ∧ getFlag .negative (compareFlags .exclusive r m p) = false) ∧
    (r.toNat < m.toNat → getFlag .zero (compareFlags .exclusive r m p) = false ∧
      getFlag .carry (compareFlags .exclusive r m p) = false ∧ getFlag .negative (compareFlags .exclusive r m p) = true) ∧
    getFlag .carry (compareFlags .silicon r m p) = decide (r.toNat ≥ m.toNat) ∧
    getFlag .zero (compareFlags .silicon r m p) = decide (r - m = 0) ∧
    getFlag .negative (compareFlags .silicon r m p) = (r - m).getLsbD 7 ∧
    getFlag .carry (compareFlags .silicon r m p) = getFlag .carry (compareFlags .exclusive r m p) ∧
    getFlag .zero (compareFlags .silicon r m p) = getFlag .zero (compareFlags .exclusive r m p) ∧
    compareFlags .exclusive r m p &&& 0x7C = p &&& 0x7C ∧ compareFlags .silicon r m p &&& 0x7C = p &&& 0x7C

/-- CMP, CPX and CPY compare A, X or Y with the operand byte and change nothing but P (R127, R128, R129). -/
def Obligations.ComparesChangeFlagsOnly : Prop :=
  (∀ v w,
    (sourceForms v w).map (fun o => (Instr.cmp o).opcode) =
      [some 0xC9, some 0xC5, some 0xD5, none, some 0xC1, some 0xD1, some 0xD2, some 0xCD, some 0xDD, some 0xD9] ∧
    (sourceForms v w).map (fun o => (Instr.cpx o).opcode) =
      [some 0xE0, some 0xE4, none, none, none, none, none, some 0xEC, none, none] ∧
    (sourceForms v w).map (fun o => (Instr.cpy o).opcode) =
      [some 0xC0, some 0xC4, none, none, none, none, none, some 0xCC, none, none]) ∧
  ∀ (src : Source) (s s1 : State) (m : Byte), readSource src s = .ok m s1 →
    exec (.cmp src) s = .next (State.framed (1 + src.bytes) { s1 with p := compareFlags s.cfg.cmpFlags s.a m s.p }) ∧
    exec (.cpx src) s = .next (State.framed (1 + src.bytes) { s1 with p := compareFlags s.cfg.cmpFlags s.x m s.p }) ∧
    exec (.cpy src) s = .next (State.framed (1 + src.bytes) { s1 with p := compareFlags s.cfg.cmpFlags s.y m s.p })

/-- INC, DEC, INX, INY, DEX and DEY step their byte by one modulo 256 and set N and Z by the flag helper (42_arithmetic.md R130,
R131, R132, R133, R134, R135). General knowledge the spec marks: R130, R131, R132, R133, R134, R135. -/
def Obligations.IncrementsAndDecrementsStepByOne : Prop :=
  (∀ v w,
    (targetForms v w).map (fun o => (Instr.inc o).opcode) =
      [some 0x1A, some 0xE6, some 0xF6, some 0xEE, some 0xFE] ∧
    (targetForms v w).map (fun o => (Instr.dec o).opcode) =
      [some 0x3A, some 0xC6, some 0xD6, some 0xCE, some 0xDE]) ∧ Instr.inx.opcode = some 0xE8 ∧ Instr.iny.opcode = some 0xC8 ∧ Instr.dex.opcode = some 0xCA ∧ Instr.dey.opcode = some 0x88 ∧
  ∀ s : State,
    exec (.inc .acc) s = .next (State.framed 1 { s with a := s.a + 1, p := setNZ (s.a + 1) s.p }) ∧
    (∀ dst ea s1 m s2 s3, effectiveAddress dst s = .ok ea s1 → busRead ea s1 = .ok m s2 → busWrite ea (m + 1) s2 = .ok () s3 →
      exec (.inc (.mem dst)) s = .next (State.framed (1 + dst.bytes) { s3 with p := setNZ (m + 1) s3.p })) ∧
    exec (.dec .acc) s = .next (State.framed 1 { s with a := s.a - 1, p := setNZ (s.a - 1) s.p }) ∧
    (∀ dst ea s1 m s2 s3, effectiveAddress dst s = .ok ea s1 → busRead ea s1 = .ok m s2 → busWrite ea (m - 1) s2 = .ok () s3 →
      exec (.dec (.mem dst)) s = .next (State.framed (1 + dst.bytes) { s3 with p := setNZ (m - 1) s3.p })) ∧
    exec .inx s = .next (State.framed 1 { s with x := s.x + 1, p := setNZ (s.x + 1) s.p }) ∧
    exec .iny s = .next (State.framed 1 { s with y := s.y + 1, p := setNZ (s.y + 1) s.p }) ∧
    exec .dex s = .next (State.framed 1 { s with x := s.x - 1, p := setNZ (s.x - 1) s.p }) ∧
    exec .dey s = .next (State.framed 1 { s with y := s.y - 1, p := setNZ (s.y - 1) s.p })

/-- AND, ORA and EOR combine A with the operand byte bitwise, into A, with N and Z by the flag helper (R140, R141, R142). -/
def Obligations.LogicOperationsCombineWithA : Prop :=
  (∀ v w,
    (sourceForms v w).map (fun o => (Instr.and o).opcode) =
      [some 0x29, some 0x25, some 0x35, none, some 0x21, some 0x31, some 0x32, some 0x2D, some 0x3D, some 0x39] ∧
    (sourceForms v w).map (fun o => (Instr.ora o).opcode) =
      [some 0x09, some 0x05, some 0x15, none, some 0x01, some 0x11, some 0x12, some 0x0D, some 0x1D, some 0x19] ∧
    (sourceForms v w).map (fun o => (Instr.eor o).opcode) =
      [some 0x49, some 0x45, some 0x55, none, some 0x41, some 0x51, some 0x52, some 0x4D, some 0x5D, some 0x59]) ∧
  ∀ (src : Source) (s s1 : State) (m : Byte), readSource src s = .ok m s1 →
    exec (.and src) s = .next (State.framed (1 + src.bytes) { s1 with a := s.a &&& m, p := setNZ (s.a &&& m) s1.p }) ∧
    exec (.ora src) s = .next (State.framed (1 + src.bytes) { s1 with a := s.a ||| m, p := setNZ (s.a ||| m) s1.p }) ∧
    exec (.eor src) s = .next (State.framed (1 + src.bytes) { s1 with a := s.a ^^^ m, p := setNZ (s.a ^^^ m) s1.p })

/-- BIT sets Z from A and M and copies bits 7 and 6 of M to N and V, except BIT #imm under BIT_IMM_FLAGS = wdc
(43_logic_shift.md R143). Decisions the spec marks as its own: R143 (D6). General knowledge the spec marks: R143. -/
def Obligations.BitTestsWithoutChangingA : Prop :=
  (∀ v w,
    (sourceForms v w).map (fun o => (Instr.bit o).opcode) =
      [some 0x89, some 0x24, some 0x34, none, none, none, none, some 0x2C, some 0x3C, none]) ∧
  ∀ (src : Source) (s s1 : State) (m : Byte), readSource src s = .ok m s1 →
    ((∃ v, src = .imm v) → s.cfg.bitImmFlags = .wdc →
      exec (.bit src) s = .next (State.framed (1 + src.bytes) { s1 with p := putFlag .zero (s.a &&& m == 0) s.p })) ∧
    ((∃ d, src = .mem d) ∨ s.cfg.bitImmFlags = .uniform →
      exec (.bit src) s = .next (State.framed (1 + src.bytes)
        { s1 with p := putFlag .overflow (m.getLsbD 6) (putFlag .negative (m.getLsbD 7) (putFlag .zero (s.a &&& m == 0) s.p)) }))

/-- TRB and TSB set Z from A and M and write M with the bits of A cleared or set, changing no other flag (R144, R145). -/
def Obligations.TrbAndTsbTestThenChangeMemory : Prop :=
  (∀ v w,
    (addressForms v w).map (fun o => (Instr.trb o).opcode) =
      [some 0x14, none, none, none, none, none, some 0x1C, none, none] ∧
    (addressForms v w).map (fun o => (Instr.tsb o).opcode) =
      [some 0x04, none, none, none, none, none, some 0x0C, none, none]) ∧
  ∀ (dst : Address) (s s1 s2 s3 : State) (ea : Addr) (m : Byte),
    effectiveAddress dst s = .ok ea s1 → busRead ea s1 = .ok m s2 →
    (busWrite ea (m &&& ~~~s.a) s2 = .ok () s3 →
      exec (.trb dst) s = .next (State.framed (1 + dst.bytes) { s3 with p := putFlag .zero (s.a &&& m == 0) s3.p })) ∧
    (busWrite ea (m ||| s.a) s2 = .ok () s3 →
      exec (.tsb dst) s = .next (State.framed (1 + dst.bytes) { s3 with p := putFlag .zero (s.a &&& m == 0) s3.p }))

/-- RMBn and SMBn clear or set bit n of a zero-page byte and change no flag (R146, R147). -/
def Obligations.RmbAndSmbWriteOneBit : Prop :=
  ∀ (n : Fin 8) (z : Byte),
    (rmbInstr n z).opcode = some (BitVec.ofNat 8 (0x07 + 16 * n.val)) ∧
    (smbInstr n z).opcode = some (BitVec.ofNat 8 (0x87 + 16 * n.val)) ∧
    (∀ b, decodeBytes false (BitVec.ofNat 8 (0x07 + 16 * n.val)) z b = .nop2 (BitVec.ofNat 8 (0x07 + 16 * n.val)) ∧
      decodeBytes false (BitVec.ofNat 8 (0x87 + 16 * n.val)) z b = .nop2 (BitVec.ofNat 8 (0x87 + 16 * n.val))) ∧
    ∀ (s s1 s2 : State) (m : Byte), busRead (zext16 z) s = .ok m s1 →
      (busWrite (zext16 z) (m &&& ~~~(1#8 <<< n.val)) s1 = .ok () s2 → exec (rmbInstr n z) s = .next (State.framed 2 s2)) ∧
      (busWrite (zext16 z) (m ||| 1#8 <<< n.val) s1 = .ok () s2 → exec (smbInstr n z) s = .next (State.framed 2 s2))

/-- ASL, LSR, ROL and ROR shift by one bit, C takes the bit moved out, N and Z by the flag helper (R148, R149, R150, R151).
General knowledge the spec marks: R151. -/
def Obligations.ShiftsMoveOneBitThroughCarry : Prop :=
  (∀ v w,
    (targetForms v w).map (fun o => (Instr.asl o).opcode) =
      [some 0x0A, some 0x06, some 0x16, some 0x0E, some 0x1E] ∧
    (targetForms v w).map (fun o => (Instr.lsr o).opcode) =
      [some 0x4A, some 0x46, some 0x56, some 0x4E, some 0x5E] ∧
    (targetForms v w).map (fun o => (Instr.rol o).opcode) =
      [some 0x2A, some 0x26, some 0x36, some 0x2E, some 0x3E] ∧
    (targetForms v w).map (fun o => (Instr.ror o).opcode) =
      [some 0x6A, some 0x66, some 0x76, some 0x6E, some 0x7E]) ∧
  ∀ s : State,
    exec (.asl .acc) s = .next (State.framed 1 { s with a := s.a <<< 1, p := setNZ (s.a <<< 1) (putFlag .carry (s.a.getLsbD 7) s.p) }) ∧
    (∀ dst ea s1 m s2 s3, effectiveAddress dst s = .ok ea s1 → busRead ea s1 = .ok m s2 → busWrite ea (m <<< 1) s2 = .ok () s3 →
      exec (.asl (.mem dst)) s = .next (State.framed (1 + dst.bytes) { s3 with p := setNZ (m <<< 1) (putFlag .carry (m.getLsbD 7) s3.p) })) ∧
    exec (.lsr .acc) s = .next (State.framed 1 { s with a := s.a >>> 1, p := setNZ (s.a >>> 1) (putFlag .carry (s.a.getLsbD 0) s.p) }) ∧
    (∀ dst ea s1 m s2 s3, effectiveAddress dst s = .ok ea s1 → busRead ea s1 = .ok m s2 → busWrite ea (m >>> 1) s2 = .ok () s3 →
      exec (.lsr (.mem dst)) s = .next (State.framed (1 + dst.bytes) { s3 with p := setNZ (m >>> 1) (putFlag .carry (m.getLsbD 0) s3.p) })) ∧
    exec (.rol .acc) s = .next (State.framed 1 { s with a := s.a <<< 1 ||| (if getFlag .carry s.p then 1 else 0), p := setNZ (s.a <<< 1 ||| (if getFlag .carry s.p then 1 else 0)) (putFlag .carry (s.a.getLsbD 7) s.p) }) ∧
    (∀ dst ea s1 m s2 s3, effectiveAddress dst s = .ok ea s1 → busRead ea s1 = .ok m s2 → busWrite ea (m <<< 1 ||| (if getFlag .carry s.p then 1 else 0)) s2 = .ok () s3 →
      exec (.rol (.mem dst)) s = .next (State.framed (1 + dst.bytes) { s3 with p := setNZ (m <<< 1 ||| (if getFlag .carry s.p then 1 else 0)) (putFlag .carry (m.getLsbD 7) s3.p) })) ∧
    exec (.ror .acc) s = .next (State.framed 1 { s with a := s.a >>> 1 ||| (if getFlag .carry s.p then 0x80 else 0), p := setNZ (s.a >>> 1 ||| (if getFlag .carry s.p then 0x80 else 0)) (putFlag .carry (s.a.getLsbD 0) s.p) }) ∧
    (∀ dst ea s1 m s2 s3, effectiveAddress dst s = .ok ea s1 → busRead ea s1 = .ok m s2 → busWrite ea (m >>> 1 ||| (if getFlag .carry s.p then 0x80 else 0)) s2 = .ok () s3 →
      exec (.ror (.mem dst)) s = .next (State.framed (1 + dst.bytes) { s3 with p := setNZ (m >>> 1 ||| (if getFlag .carry s.p then 0x80 else 0)) (putFlag .carry (m.getLsbD 0) s3.p) }))

/-- The conditional branches and BRA go to PC+2 plus the signed offset when their flag condition holds, else to PC+2 (R160,
R161, R162, R163, R164, R165, R166, R167, R168, R169). -/
def Obligations.BranchesAddTheSignedOffset : Prop :=
  (∀ r : Byte, (Instr.bcc r).opcode = some 0x90 ∧ (Instr.bcs r).opcode = some 0xB0 ∧ (Instr.beq r).opcode = some 0xF0 ∧ (Instr.bne r).opcode = some 0xD0 ∧
    (Instr.bmi r).opcode = some 0x30 ∧ (Instr.bpl r).opcode = some 0x10 ∧ (Instr.bvc r).opcode = some 0x50 ∧ (Instr.bvs r).opcode = some 0x70 ∧
    (Instr.bra r).opcode = some 0x80) ∧
  ∀ (s : State) (r : Byte) (taken notTaken : Addr),
    taken = BitVec.ofInt 16 (s.pc.toNat + 2 + r.toInt) → notTaken = s.pc + 2 →
    exec (.bcc r) s = .next (State.jumped (if getFlag .carry s.p = false then taken else notTaken) s) ∧
    exec (.bcs r) s = .next (State.jumped (if getFlag .carry s.p = true then taken else notTaken) s) ∧
    exec (.beq r) s = .next (State.jumped (if getFlag .zero s.p = true then taken else notTaken) s) ∧
    exec (.bne r) s = .next (State.jumped (if getFlag .zero s.p = false then taken else notTaken) s) ∧
    exec (.bmi r) s = .next (State.jumped (if getFlag .negative s.p = true then taken else notTaken) s) ∧
    exec (.bpl r) s = .next (State.jumped (if getFlag .negative s.p = false then taken else notTaken) s) ∧
    exec (.bvc r) s = .next (State.jumped (if getFlag .overflow s.p = false then taken else notTaken) s) ∧
    exec (.bvs r) s = .next (State.jumped (if getFlag .overflow s.p = true then taken else notTaken) s) ∧
    exec (.bra r) s = .next (State.jumped taken s)

/-- BBRn and BBSn read a zero-page byte and go to PC+3 plus the signed offset when bit n is clear or set, else to PC+3
(44_control.md R170, R171). Decisions the spec marks as its own: R170 (D32). -/
def Obligations.BitBranchesTestOneBit : Prop :=
  ∀ (n : Fin 8) (z r : Byte),
    (bbrInstr n z r).opcode = some (BitVec.ofNat 8 (0x0F + 16 * n.val)) ∧
    (bbsInstr n z r).opcode = some (BitVec.ofNat 8 (0x8F + 16 * n.val)) ∧
    (bbrInstr n z r).length = 3 ∧ (bbsInstr n z r).length = 3 ∧
    ∀ (s s1 : State) (m : Byte) (taken notTaken : Addr), busRead (zext16 z) s = .ok m s1 →
      taken = BitVec.ofInt 16 (s.pc.toNat + 3 + r.toInt) → notTaken = s.pc + 3 →
      exec (bbrInstr n z r) s = .next (State.jumped (if m.getLsbD n.val = false then taken else notTaken) s1) ∧
      exec (bbsInstr n z r) s = .next (State.jumped (if m.getLsbD n.val = true then taken else notTaken) s1)

/-- JMP goes to its operand, to the word at its operand, or to the word at its operand plus X, with no page wrap
(40_addressing.md R103, R104, 44_control.md R172). Decisions the spec marks as its own: R103 (D8), R172 (D8). General knowledge
the spec marks: R104. -/
def Obligations.JumpGoesToItsTarget : Prop :=
  (∀ w, (Instr.jmp (.abs w)).opcode = some 0x4C ∧ (Instr.jmp (.ind w)).opcode = some 0x6C ∧
    (Instr.jmp (.aix w)).opcode = some 0x7C ∧ ∀ o, (Instr.jmp o).length = 3) ∧
  ∀ (s : State) (w : Addr),
    exec (.jmp (.abs w)) s = .next (State.jumped w s) ∧
    (∀ lo s1 hi s2, busRead w s = .ok lo s1 → busRead (w + 1) s1 = .ok hi s2 →
      exec (.jmp (.ind w)) s = .next (State.jumped (hi ++ lo) s2)) ∧
    (∀ ptr lo s1 hi s2, ptr = w + s.x.setWidth 16 → busRead ptr s = .ok lo s1 → busRead (ptr + 1) s1 = .ok hi s2 →
      exec (.jmp (.aix w)) s = .next (State.jumped (hi ++ lo) s2))

/-- JSR pushes PC+2, high byte first, and jumps; RTS pulls the word, low byte first, and goes to it plus one (R174). Its clauses
for R173 are not cited as stated. Decisions the spec marks as its own: R173 (D34). -/
def Obligations.JsrAndRtsUseThePushedReturnAddress : Prop :=
  (∀ w, (Instr.jsr w).opcode = some 0x20) ∧ Instr.rts.opcode = some 0x60 ∧
  (∀ (s s1 s2 : State) (w ret : Addr), ret = s.pc + 2 → push (ret.extractLsb' 8 8) s = .ok () s1 →
    push (ret.extractLsb' 0 8) s1 = .ok () s2 → exec (.jsr w) s = .next (State.jumped w s2)) ∧
  (∀ (s s1 s2 : State) (lo hi : Byte), pull s = .ok lo s1 → pull s1 = .ok hi s2 →
    exec .rts s = .next (State.jumped ((hi ++ lo) + 1) s2))

/-- BRK pushes PC+2 and P with bits 4 and 5 set, sets I, leaves D, and goes to the word at 0xFFFE; RTI restores P and PC
(44_control.md R175, R176). Decisions the spec marks as its own: R175 (D11), R176 (D31). General knowledge the spec marks: R175.
-/
def Obligations.BrkAndRtiEnterAndLeaveTheHandler : Prop :=
  Instr.brk.opcode = some 0x00 ∧ Instr.brk.length = 2 ∧ Instr.rti.opcode = some 0x40 ∧
  (∀ (s s1 s2 s3 s4 s5 : State) (ret : Addr) (lo hi : Byte), ret = s.pc + 2 →
    push (ret.extractLsb' 8 8) s = .ok () s1 → push (ret.extractLsb' 0 8) s1 = .ok () s2 →
    push (s.p ||| 0x30) s2 = .ok () s3 → busRead 0xFFFE { s3 with p := putFlag .interrupt true s.p } = .ok lo s4 →
    busRead 0xFFFF s4 = .ok hi s5 → exec .brk s = .next (State.jumped (hi ++ lo) s5)) ∧
  (∀ (s s1 s2 s3 : State) (p lo hi : Byte), pull s = .ok p s1 → pull { s1 with p := p } = .ok lo s2 →
    pull s2 = .ok hi s3 → exec .rti s = .next (State.jumped (hi ++ lo) s3))

/-- PHA, PHP, PHX, PHY push A, P with bits 4 and 5 set, X, Y; PLA, PLX, PLY pull with setNZ; PLP pulls P verbatim (R180, R181,
R182, R183, R184, R186, R187). Its clauses for R185 are not cited as stated. Decisions the spec marks as its own: R185 (D31,
D33). -/
def Obligations.PushesAndPullsMoveOneByte : Prop :=
  Instr.pha.opcode = some 0x48 ∧ Instr.php.opcode = some 0x08 ∧ Instr.phx.opcode = some 0xDA ∧ Instr.phy.opcode = some 0x5A ∧
  Instr.pla.opcode = some 0x68 ∧ Instr.plp.opcode = some 0x28 ∧ Instr.plx.opcode = some 0xFA ∧ Instr.ply.opcode = some 0x7A ∧
  (∀ s s1 : State,
    (push s.a s = .ok () s1 → exec .pha s = .next (State.framed 1 s1)) ∧
    (push (s.p ||| 0x30) s = .ok () s1 → exec .php s = .next (State.framed 1 s1)) ∧
    (push s.x s = .ok () s1 → exec .phx s = .next (State.framed 1 s1)) ∧
    (push s.y s = .ok () s1 → exec .phy s = .next (State.framed 1 s1))) ∧
  ∀ (s s1 : State) (v : Byte), pull s = .ok v s1 →
    exec .pla s = .next (State.framed 1 { s1 with a := v, p := setNZ v s1.p }) ∧
    exec .plp s = .next (State.framed 1 { s1 with p := v }) ∧
    exec .plx s = .next (State.framed 1 { s1 with x := v, p := setNZ v s1.p }) ∧
    exec .ply s = .next (State.framed 1 { s1 with y := v, p := setNZ v s1.p })

/-- TAX, TAY, TXA, TYA and TSX copy a register and set N and Z by the flag helper; TXS copies X to SP and changes no flag (R188,
R189, R190, R191, R192, R193). -/
def Obligations.TransfersCopyOneRegister : Prop :=
  Instr.tax.opcode = some 0xAA ∧ Instr.tay.opcode = some 0xA8 ∧ Instr.txa.opcode = some 0x8A ∧ Instr.tya.opcode = some 0x98 ∧ Instr.tsx.opcode = some 0xBA ∧ Instr.txs.opcode = some 0x9A ∧
  ∀ s : State,
    exec .tax s = .next (State.framed 1 { s with x := s.a, p := setNZ s.a s.p }) ∧
    exec .tay s = .next (State.framed 1 { s with y := s.a, p := setNZ s.a s.p }) ∧
    exec .txa s = .next (State.framed 1 { s with a := s.x, p := setNZ s.x s.p }) ∧
    exec .tya s = .next (State.framed 1 { s with a := s.y, p := setNZ s.y s.p }) ∧
    (s.spHeld = true → exec .tsx s = .next (State.framed 1 { s with x := s.sp, p := setNZ s.sp s.p })) ∧
    exec .txs s = .next (State.framed 1 { s with sp := s.x, spHeld := true })

/-- CLC, SEC, CLI, SEI, CLD, SED and CLV write their one bit of P and leave every other bit, bits 4 and 5 among them (R194,
R195, R197, R198, R199, R200). Its clauses for R196 are not cited as stated. Decisions the spec marks as its own: R196 (D33). -/
def Obligations.FlagInstructionsWriteOneBit : Prop :=
  Instr.clc.opcode = some 0x18 ∧ Instr.sec.opcode = some 0x38 ∧ Instr.cli.opcode = some 0x58 ∧ Instr.sei.opcode = some 0x78 ∧ Instr.cld.opcode = some 0xD8 ∧ Instr.sed.opcode = some 0xF8 ∧ Instr.clv.opcode = some 0xB8 ∧
  ∀ s : State,
    exec .clc s = .next (State.framed 1 { s with p := s.p &&& ~~~0x01 }) ∧
    exec .sec s = .next (State.framed 1 { s with p := s.p ||| 0x01 }) ∧
    exec .cli s = .next (State.framed 1 { s with p := s.p &&& ~~~0x04 }) ∧
    exec .sei s = .next (State.framed 1 { s with p := s.p ||| 0x04 }) ∧
    exec .cld s = .next (State.framed 1 { s with p := s.p &&& ~~~0x08 }) ∧
    exec .sed s = .next (State.framed 1 { s with p := s.p ||| 0x08 }) ∧
    exec .clv s = .next (State.framed 1 { s with p := s.p &&& ~~~0x40 })

/-- NOP and the undefined opcodes NOP1, NOP2, NOP3 change nothing but PC, by their length, and the clock (R201, R202). Its
clauses for R203, R204 are not cited as stated. Decisions the spec marks as its own: R203 (D28), R204 (D28). General knowledge
the spec marks: R203. -/
def Obligations.NoOperationsOnlyAdvance : Prop :=
  Instr.nop.opcode = some 0xEA ∧
  (∀ (s : State) (op : Byte),
    exec .nop s = .next (State.framed 1 s) ∧ exec (.nop1 op) s = .next (State.framed 1 s) ∧
    exec (.nop2 op) s = .next (State.framed 2 s) ∧ exec (.nop3 op) s = .next (State.framed 3 s)) ∧
  ∀ b1 b2 : Byte,
    (∀ ext : Bool,
      (∀ n ∈ List.range 16, decodeBytes ext (BitVec.ofNat 8 (0x03 + 16 * n)) b1 b2 = .nop1 (BitVec.ofNat 8 (0x03 + 16 * n))) ∧
      (∀ n ∈ List.range 12, decodeBytes ext (BitVec.ofNat 8 (0x0B + 16 * n)) b1 b2 = .nop1 (BitVec.ofNat 8 (0x0B + 16 * n))) ∧
      (∀ op ∈ ([0xEB, 0xFB] : List Byte), decodeBytes ext op b1 b2 = .nop1 op) ∧
      (∀ op ∈ ([0x02, 0x22, 0x42, 0x62, 0x82, 0xC2, 0xE2, 0x44, 0x54, 0xD4, 0xF4] : List Byte),
        decodeBytes ext op b1 b2 = .nop2 op) ∧
      (∀ op ∈ ([0x5C, 0xDC, 0xFC] : List Byte), decodeBytes ext op b1 b2 = .nop3 op)) ∧
    (∀ op ∈ ([0x1A, 0x3A, 0xCB, 0xDB] : List Byte), decodeBytes false op b1 b2 = .nop1 op) ∧
    (∀ n ∈ List.range 16, decodeBytes false (BitVec.ofNat 8 (0x07 + 16 * n)) b1 b2 = .nop2 (BitVec.ofNat 8 (0x07 + 16 * n))) ∧
    (∀ op ∈ ([0x89, 0x34] : List Byte), decodeBytes false op b1 b2 = .nop2 op) ∧ decodeBytes false 0x3C b1 b2 = .nop3 0x3C

/-- WAI enters Waiting and STP enters Stopped, PC passing one byte (45_stack_transfer_misc.md R205, R206). -/
def Obligations.WaiAndStpEnterTheirMode : Prop :=
  Instr.wai.opcode = some 0xCB ∧ Instr.stp.opcode = some 0xDB ∧
  ∀ s : State,
    exec .wai s = .next (State.framed 1 { s with cpuMode := .waiting }) ∧
    exec .stp s = .next (State.framed 1 { s with cpuMode := .stopped })

/-- An SP read while unwritten faults, a data-port access of an active transfer past the store faults, and no other access or
instruction does (60_exceptions.md R219). Decisions the spec marks as its own: R219 (D17, D19). -/
def Obligations.ModelFaultsAreExactlyTheTwoOfTheRule : Prop :=
  (∀ (i : Instr) (s : State), s.spHeld = false → i.readsSp = true → exec i s = .fault .unwrittenSP) ∧
  (∀ s : State, s.spHeld = false → interruptEntry s = .fault .unwrittenSP) ∧
  (∀ (s : State) (v : Byte), s.disk.store ≠ [] → s.disk.offset < 512 → s.disk.store.length ≤ s.disk.byteIndex →
    (s.disk.command = .read → diskRead 0 s = .fault .diskOutOfRange) ∧
    (s.disk.command = .write → diskWrite 0 v s = .fault .diskOutOfRange)) ∧
  (∀ (i : Instr) (s : State) (f : Fault), s.spHeld = true ∨ i.readsSp = false → exec i s = .fault f →
    f = .diskOutOfRange ∧ i.accessesBus = true ∧ s.cfg.diskAttached = true ∧ s.disk.store ≠ [] ∧
    (s.cfg.wf = true → s.disk.command ≠ .none)) ∧
  (∀ (s : State) (f : Fault), s.spHeld = true → interruptEntry s = .fault f →
    f = .diskOutOfRange ∧ s.cfg.diskAttached = true ∧ s.disk.store ≠ []) ∧
  (∀ (s : State) (f : Fault), fetch s = .fault f →
    f = .diskOutOfRange ∧ s.cfg.diskAttached = true ∧ s.disk.store ≠ [] ∧ s.disk.command = .read) ∧
  (∀ (a : Addr) (s : State) (f : Fault), busRead a s = .fault f ↔
    f = .diskOutOfRange ∧ inDisk s.cfg a = true ∧ a.toNat % 8 = 0 ∧ s.disk.store ≠ [] ∧ s.disk.command = .read ∧
    s.disk.offset ≠ 512 ∧ s.disk.store.length ≤ s.disk.byteIndex) ∧
  (∀ (a : Addr) (v : Byte) (s : State) (f : Fault), busWrite a v s = .fault f ↔
    f = .diskOutOfRange ∧ inDisk s.cfg a = true ∧ a.toNat % 8 = 0 ∧ s.disk.store ≠ [] ∧ s.disk.command = .write ∧
    s.disk.offset ≠ 512 ∧ s.disk.store.length ≤ s.disk.byteIndex) ∧
  (∀ (s : State) (r : Refusal), step s ≠ .refused r)

/-- A, X and Y change only by the instructions the rule lists, SP only by those that push, pull or transfer to it, and
currentInstruction by none (log entry 10: the fetch writes it) (10_state.md R20, R22, R33, 40_addressing.md R90). Decisions the
spec marks as its own: R22 (D17), R33 (D12, D16), R90 (D10). -/
def Obligations.RegistersChangeOnlyByTheirWriters : Prop :=
  ∀ (i : Instr) (s t : State), exec i s = .next t →
    (i.writesA = false → t.a = s.a) ∧ (i.writesX = false → t.x = s.x) ∧ (i.writesY = false → t.y = s.y) ∧
    (i.writesSp = false → t.sp = s.sp ∧ t.spHeld = s.spHeld) ∧ t.currentInstruction = s.currentInstruction

/-- Each flag of P changes only by the instructions its rule lists, and bits 4 and 5 only by setNZ callers, PLP and RTI (R25,
R26, R29, R30). Its clauses for R27, R28, R31 are not cited as stated. Decisions the spec marks as its own: R27 (D16), R28
(D11), R31 (D31). -/
def Obligations.FlagsChangeOnlyByTheirWriters : Prop :=
  (∀ (i : Instr) (s t : State), exec i s = .next t →
    (i.writesC = false → getFlag .carry t.p = getFlag .carry s.p) ∧
    (i.writesZ = false → getFlag .zero t.p = getFlag .zero s.p) ∧
    (i.writesI = false → getFlag .interrupt t.p = getFlag .interrupt s.p) ∧
    (i.writesD = false → getFlag .decimal t.p = getFlag .decimal s.p) ∧
    (i.writesV = false → getFlag .overflow t.p = getFlag .overflow s.p) ∧
    (i.writesN = false → getFlag .negative t.p = getFlag .negative s.p) ∧
    (i.callsSetNZ = true → t.p &&& 0x30 = 0x30) ∧
    (i.callsSetNZ = false → i ≠ .plp → i ≠ .rti → t.p &&& 0x30 = s.p &&& 0x30)) ∧
  (∀ f : Flag, getFlag f State.reset.p = false) ∧ State.reset.p &&& 0x30 = 0x30

/-- An instruction leaves the configuration, run-state, request, IRQ line, log level, queue and receiver, and charges its
cycles. That cfg is a field no step changes is log entry 1, that the cycles are those of currentInstruction is log entry 10, the
queue of commands is log entry 12, and that the receiver is kept, and delivered where nothing is emitted, is R260 and R265 in
the form of log entry 13 (10_state.md R32-R35, 40_addressing.md R90, R106, 60_exceptions.md R260, R265). Decisions the spec
marks as its own: R32 (D16, D27), R33 (D12, D16), R34 (D13, D16), R35 (D16, D29), R90 (D10), R106 (D10). -/
def Obligations.InstructionsLeaveTheControlState : Prop :=
  ∀ (i : Instr) (s t : State), exec i s = .next t →
    t.cfg = s.cfg ∧ t.runState = s.runState ∧ t.stepRequest = s.stepRequest ∧ t.irqLine = s.irqLine ∧
    t.logLevel = s.logLevel ∧ t.commands = s.commands ∧ (i ≠ .wai → i ≠ .stp → t.cpuMode = s.cpuMode) ∧
    t.disk.store.length = s.disk.store.length ∧
    (i.accessesBus = false → t.mem = s.mem ∧ t.disk = s.disk ∧ t.timer = s.timer ∧
      t.events = s.events ∧ t.delivered = s.delivered) ∧
    t.receiver = s.receiver ∧
    t.cycleClock = (s.cycleClock + s.cfg.cycles.getD s.currentInstruction.toNat 0) % 2 ^ s.cfg.clockWidth

/-- An instruction changes no byte of storage but its destination or stack slots, and the ready flag a serial read clears
(20_memory.md R44, R52, R55, 40_addressing.md R91, R106, 60_exceptions.md R250). Decisions the spec marks as its own: R91 (D10),
R106 (D10). -/
def Obligations.StorageChangesOnlyAtTheDestination : Prop :=
  ∀ (i : Instr) (s t : State), exec i s = .next t →
    (i.destination = none → i.pushes = false → ∀ b : Addr,
      t.mem.get b.toNat = s.mem.get b.toNat ∨ (b = s.cfg.serialReady ∧ t.mem.get b.toNat = 0x00)) ∧
    (∀ dst ea s1, i.destination = some dst → effectiveAddress dst s = .ok ea s1 → ∀ b : Addr, b ≠ ea →
      t.mem.get b.toNat = s.mem.get b.toNat ∨ (b = s.cfg.serialReady ∧ t.mem.get b.toNat = 0x00)) ∧
    (i.pushes = true → ∀ b : Addr, b ≠ stackAddr s.sp →
      ((∃ w, i = .jsr w) ∨ i = .brk → b ≠ stackAddr (s.sp - 1)) → (i = .brk → b ≠ stackAddr (s.sp - 2)) →
      t.mem.get b.toNat = s.mem.get b.toNat ∨ (b = s.cfg.serialReady ∧ t.mem.get b.toNat = 0x00))

/-- With a well-formed configuration, SP held and no disk transfer active, every instruction answers a next state
(40_addressing.md R90, 60_exceptions.md R219). Decisions the spec marks as its own: R90 (D10), R219 (D17, D19). -/
def Obligations.EveryInstructionCompletesWhereNoTransferIsActive : Prop :=
  ∀ (i : Instr) (s : State), s.cfg.wf = true → s.spHeld = true → s.disk.command = .none →
    ∃ t, exec i s = .next t ∧ (i.writesPc = false → t.pc = s.pc + BitVec.ofNat 16 i.length) ∧
      t.cycleClock = (s.cycleClock + s.cfg.cycles.getD s.currentInstruction.toNat 0) % 2 ^ s.cfg.clockWidth

/-- A step with no command pending, executing, and no interrupt taken is exec of the instruction at PC, then the tick
(60_exceptions.md R210, 40_addressing.md R90). Decisions the spec marks as its own: R210 (D13, D15), R90 (D10). -/
def Obligations.StepRunsTheDecodedInstruction : Prop :=
  ∀ (s : State), s.commands.headD [] = [] → s.runState = .running ∨ s.stepRequest = .stepOnce → s.cpuMode = .executing →
    s.irqLine = false ∨ getFlag .interrupt s.p = true →
    (∀ i s1, fetch { s with stepRequest := .idle, commands := s.commands.tail } = .ok i s1 →
      i.wellFormed s.cfg.wdcUnnamedExt = true ∧ step s = onNext (exec i s1) State.endStep) ∧
    (∀ i rest, isPlain s.cfg s.pc = true → isPlain s.cfg (s.pc + 1) = true → isPlain s.cfg (s.pc + 2) = true →
      decode s.cfg.wdcUnnamedExt
        [s.mem.get s.pc.toNat, s.mem.get (s.pc + 1).toNat, s.mem.get (s.pc + 2).toNat] = .ok (i, rest) →
      i.wellFormed s.cfg.wdcUnnamedExt = true ∧
      step s = onNext (exec i { s with
        stepRequest := .idle, commands := s.commands.tail, currentInstruction := s.mem.get s.pc.toNat }) State.endStep)

/-- A paused idle step does nothing, a stopped one consumes the request, a waiting one ticks until the line is 1, and above log
level 0 each may log and pause: R262 and D39 say any step, which the model follows where R206 and R211 say that a step changes
nothing (log entry 7). What the receiver gets of the events is log entry 13 (60_exceptions.md R210, R211, R259, R262,
45_stack_transfer_misc.md R205, R206). Decisions the spec marks as its own: R210 (D13, D15), R262 (D39). -/
def Obligations.StepFollowsTheModes : Prop :=
  (∀ s : State, s.commands.headD [] = [] →
    (s.runState = .paused → s.stepRequest = .idle → step s = .next (State.logAndStall { s with commands := s.commands.tail })) ∧
    (s.runState = .running ∨ s.stepRequest = .stepOnce →
      (s.cpuMode = .stopped → step s = .next (State.logAndStall { s with stepRequest := .idle, commands := s.commands.tail })) ∧
      (s.cpuMode = .waiting → s.irqLine = false →
        step s = .next (State.endStep { s with stepRequest := .idle, commands := s.commands.tail })) ∧
      (s.cpuMode = .waiting → s.irqLine = true → step s = step { s with cpuMode := .executing }) ∧
      (∀ t, step s = .next t → t.stepRequest = .idle)) ∧
    (∀ t, step s = .next t → s.logLevel = 0 →
      t.runState = s.runState ∧ t.logLevel = 0 ∧ ∃ out : List Byte, t.events = s.events ++ out.map EngineEvent.outputByte)) ∧
  ∀ s : State, s.endStep = s.tickAll.logAndStall ∧ (s.logLevel = 0 → s.logAndStall = s) ∧
    (s.logLevel ≠ 0 → ∃ (lines : List String) (text : String),
      s.logAndStall = { s.emitAll (lines.map EngineEvent.logLine) with drawCount := s.drawCount + 1 } ∨
      s.logAndStall = { s.emitAll (lines.map EngineEvent.logLine ++ [.logLine text]) with
        runState := .paused, drawCount := s.drawCount + 1 })

/-- With the line 1 and I = 0 an executing step is an interrupt entry: PC and P pushed, I set, PC from 0xFFFE, cycles charged
(60_exceptions.md R213, R214). Decisions the spec marks as its own: R213 (D12, D33), R214 (D11, D12). General knowledge the spec
marks: R214. -/
def Obligations.InterruptEntryReplacesTheInstruction : Prop :=
  (∀ s : State, s.commands.headD [] = [] → s.runState = .running ∨ s.stepRequest = .stepOnce → s.cpuMode = .executing →
    (s.irqLine = true → getFlag .interrupt s.p = false →
      step s = onNext ((interruptEntry { s with stepRequest := .idle, commands := s.commands.tail }).outcome id) State.endStep) ∧
    (s.irqLine = false ∨ getFlag .interrupt s.p = true →
      step s = onNext (runInstruction { s with stepRequest := .idle, commands := s.commands.tail }) State.endStep)) ∧
  ∀ (s s1 s2 s3 s4 s5 : State) (lo hi : Byte),
    push (s.pc.extractLsb' 8 8) s = .ok () s1 → push (s.pc.extractLsb' 0 8) s1 = .ok () s2 →
    push ((s.p &&& ~~~0x10) ||| 0x20) s2 = .ok () s3 →
    busRead 0xFFFE { s3 with p := s.p ||| 0x04 } = .ok lo s4 → busRead 0xFFFF s4 = .ok hi s5 →
    interruptEntry s =
      .ok () { s5 with pc := hi ++ lo, cycleClock := (s5.cycleClock + s.cfg.irqCycles) % 2 ^ s.cfg.clockWidth } ∧
    s5.currentInstruction = s.currentInstruction

/-- tickAll ticks the timer once where it is attached and sets irqLine to its interruptAsserted, else to 0. Without a VIA window
irqLine stays 0 (U26, D18); that the timer is then not ticked and keeps its fields is DEDUCED (log entry 16) (60_exceptions.md
R212, 92_eei_decisions.md D13, D18, 93_implementation_defined.md U26). Decisions the spec marks as its own: R212 (D13). -/
def Obligations.TickAllRecomputesTheIrqLine : Prop :=
  ∀ s : State,
    (s.cfg.viaPresent = true → s.tickAll = { s with timer := s.timer.tick, irqLine := s.timer.tick.asserted }) ∧
    (s.cfg.viaPresent = false → s.tickAll = { s with irqLine := false })

/-- Pending commands are applied in order before the step, each with the effect of the command table; a command sent for a later
boundary changes no step before it (the queue over the coming boundaries is the model form of the host, log entry 12). Events
are emitted in order and the receiver gets them all while kept and none once gone; what it gets changes nothing else of a step
(U25; the receiver is the model form of the host, log entry 13) (60_exceptions.md R252, R258, R260, R263, R265, 10_state.md R39,
20_memory.md R62, 93_implementation_defined.md U25). Decisions the spec marks as its own: R252 (D25), R258 (D39), R263 (D30),
R62 (D38). -/
def Obligations.HostCommandsApplyInOrderBeforeTheStep : Prop :=
  (∀ (s s1 : State) (c : HostCommand) (cs : List HostCommand), s.commands.headD [] = c :: cs →
    applyCommand c { s with commands := s.commands.tail } = .ok () s1 → step s = step { s1 with commands := cs :: s.commands.tail }) ∧
  (∀ (s : State) (c : HostCommand),
    s.send 0 c = { s with commands := (s.commands.headD [] ++ [c]) :: s.commands.tail }) ∧
  (∀ (s : State) (k : Nat) (c : HostCommand), (∃ q, s.send k c = { s with commands := q }) ∧
    step (s.send (k + 1) c) = onNext (step s) (State.send k c)) ∧
  (∀ s : State,
    applyCommand .fetchMemorySnapshot s = .ok () (s.emitAll [.memorySnapshot s.mem]) ∧
    applyCommand .fetchProcessorSnapshot s = .ok () (s.emitAll [.processorSnapshot
      { a := s.a, x := s.x, y := s.y, sp := s.sp, spHeld := s.spHeld, pc := s.pc, p := s.p, cycleClock := s.cycleClock,
        currentInstruction := s.currentInstruction, irqLine := s.irqLine }]) ∧
    applyCommand .reset s = resetSequence s ∧
    (∀ c : Char, c.toNat ≤ 0xFF → applyCommand (.sendInputByte c) s = .ok () { s with
      mem := (s.mem.set s.cfg.serialIn.toNat (BitVec.ofNat 8 c.toNat)).set s.cfg.serialReady.toNat s.cfg.serialReadyValue }) ∧
    (∀ c : Char, 0xFF < c.toNat → applyCommand (.sendInputByte c) s = .ok () s) ∧
    (∀ n, applyCommand (.setLogLevel n) s = .ok () { s with logLevel := n }) ∧
    (s.runState = .running → applyCommand .togglePause s = .ok () { s with runState := .paused }) ∧
    (s.runState = .paused → applyCommand .togglePause s = .ok () { s with runState := .running }) ∧
    applyCommand .step s = .ok () { s with stepRequest := .stepOnce }) ∧
  (∀ (s : State) (es : List EngineEvent), ∃ got : List EngineEvent, got.Sublist es ∧
    (s.receiver = .kept → got = es) ∧ (s.receiver = .gone → got = []) ∧
    s.emitAll es = { s with events := s.events ++ es, delivered := s.delivered ++ got }) ∧
  (∀ s t : State, step s = .next t → t.receiver = s.receiver ∧ ∃ es got : List EngineEvent,
    t.events = s.events ++ es ∧ t.delivered = s.delivered ++ got ∧ got.Sublist es ∧
    (s.receiver = .kept → got = es) ∧ (s.receiver = .gone → got = [])) ∧
  ∀ (s : State) (r : Receiver) (d : List EngineEvent), ∃ e : List EngineEvent,
    step { s with receiver := r, delivered := d } = onNext (step s) fun t => { t with receiver := r, delivered := d ++ e }

/-- Only a Reset leaves Stopped, every other step keeping registers and devices; a run ends at its first boundary that is
Stopped, or at END_PC and Executing, once, and never from a fault on (log entry 19). That a boundary is tested before the
commands pending there, and that the starting state is boundary 0, is the model's choice (log entry 23)
(45_stack_transfer_misc.md R206, 60_exceptions.md R219, R257, R261, R264). Decisions the spec marks as its own: R219 (D17, D19),
R257 (D29), R261 (D16), R264 (D39). -/
def Obligations.StoppedMachineStaysStoppedUntilReset : Prop :=
  (∀ s : State, s.cpuMode = .stopped → .reset ∉ s.commands.headD [] →
    ∃ t, step s = .next t ∧ t.cpuMode = .stopped ∧ t.commands = s.commands.tail ∧ t.a = s.a ∧ t.x = s.x ∧ t.y = s.y ∧ t.sp = s.sp ∧
      t.spHeld = s.spHeld ∧ t.p = s.p ∧ t.pc = s.pc ∧ t.cycleClock = s.cycleClock ∧
      t.currentInstruction = s.currentInstruction ∧ t.disk = s.disk ∧ t.timer = s.timer ∧ t.irqLine = s.irqLine) ∧
  ∀ (endPc : Addr) (s : State),
    (s.endOfRun endPc = true ↔ s.cpuMode = .stopped ∨ (s.pc = endPc ∧ s.cpuMode = .executing)) ∧
    (s.cpuMode = .stopped → endsAt endPc 0 s) ∧
    (∀ j k, endsAt endPc j s → endsAt endPc k s → j = k) ∧
    (∀ n f, runSteps n s = .fault f → ∀ k, n ≤ k → ¬endsAt endPc k s)

/-- Reset writes the registers, modes, SP and disk transfer state, then loads PC from the word at 0xFFFC. That the byte of SP is
0x00 where SP_RESET is unwritten (D17) and SP so holds no value is the model's choice (log entry 3) (70_reset_and_hazards.md
R270). Decisions the spec marks as its own: R270 (D10, D16, D37). General knowledge the spec marks: R270. -/
def Obligations.ResetSequenceWritesTheResetValues : Prop :=
  ∀ (s s1 s2 : State) (lo hi : Byte),
    busRead 0xFFFC { s with
      a := 0x00, x := 0x00, y := 0x00, p := 0x30, sp := s.cfg.spReset.getD 0x00, spHeld := s.cfg.spReset.isSome
      currentInstruction := 0x00, irqLine := false, cpuMode := .executing, runState := .running, stepRequest := .idle
      disk := { s.disk with offset := 0, command := .none } } = .ok lo s1 →
    busRead 0xFFFD s1 = .ok hi s2 → resetSequence s = .ok () { s2 with pc := hi ++ lo }

/-- Power-on refuses what R8 does not admit (log entry 14), else places the ROM at the top over zeros, leaves the reset values
(SP 0x00 where it holds no value, log entry 3) and the invariant (its clause on delivered events is R260 in the form of log
entry 13), and loads PC from the vector (00_scope.md R8, 10_state.md R22, R37, R38, 20_memory.md R41, 60_exceptions.md R258,
70_reset_and_hazards.md R270, R271). Decisions the spec marks as its own: R8 (D18), R22 (D17), R37 (D16, D17), R258 (D39), R270
(D10, D16, D37). General knowledge the spec marks: R270. -/
def Obligations.PowerOnPlacesTheRomAndMeetsTheInvariant : Prop :=
  (∀ (c : Config) (rom disk : List Byte), (c.wf && romWf rom) = false → powerOn c rom disk = .refused .badConfiguration) ∧
  (∀ (c : Config) (rom disk : List Byte), (c.wf && romWf rom) = true → ∃ t, powerOn c rom disk = .next t ∧ t.Inv ∧ t.cfg = c) ∧
  ∀ (c : Config) (rom disk : List Byte), c.wf = true → romWf rom = true →
    isPlain c 0xFFFC = true → isPlain c 0xFFFD = true →
    ∃ t, powerOn c rom disk = .next t ∧ t.a = 0 ∧ t.x = 0 ∧ t.y = 0 ∧ t.p = 0x30 ∧
      t.sp = c.spReset.getD 0 ∧ t.spHeld = c.spReset.isSome ∧ t.cycleClock = 0 ∧ t.currentInstruction = 0 ∧
      t.irqLine = false ∧ t.runState = .running ∧ t.stepRequest = .idle ∧ t.cpuMode = .executing ∧ t.logLevel = 0 ∧
      t.disk.offset = 0 ∧ t.disk.command = .none ∧ t.disk.lba = 0 ∧ t.disk.store = disk ∧
      (∀ a, a < 65536 → t.mem.get a = if 65536 - rom.length ≤ a then rom.getD (a - (65536 - rom.length)) 0 else 0) ∧
      t.pc = t.mem.get 0xFFFD ++ t.mem.get 0xFFFC

/-- State.reset is the power-on of the model-chosen configuration (log entries 2 to 5) and meets the invariant, of which the
clause on delivered events is R260 in the form of log entry 13 (10_state.md R38, 70_reset_and_hazards.md R271). -/
def Obligations.ResetStateIsThePoweredOnMachineAndMeetsTheInvariant : Prop :=
  powerOn resetConfig [0x00] [] = .next State.reset ∧ State.reset.Inv ∧ resetConfig.wf = true

/-- From every state that meets the invariant, a step that answers a next state leaves one that meets it. That the events
delivered stay among those emitted, in order, is R260 with the receiver of log entry 13, that cfg never changes is log entry 1,
and the forms of the clock, of the machine without a VIA and of storage are log entries 8, 16 and 21 (20_memory.md R40, R41,
60_exceptions.md R212, R222, R225, R226, R233, R260, 10_state.md R22, R32, R35). Decisions the spec marks as its own: R212
(D13), R222 (D19), R225 (D19, D20), R233 (D22, D23), R22 (D17), R32 (D16, D27), R35 (D16, D29). General knowledge the spec
marks: R233. -/
def Obligations.EveryStepKeepsTheInvariant : Prop :=
  ∀ s t : State, s.Inv → step s = .next t → t.Inv ∧ t.cfg = s.cfg ∧ t.disk.store.length = s.disk.store.length

/-- PHA then PLA restores A and SP, and JSR then RTS resumes after the JSR with SP restored, on plain stack slots
(95_test_vectors.md E5, E6, 45_stack_transfer_misc.md R180, R184, 44_control.md R173, R174). Decisions the spec marks as its
own: R173 (D34). -/
def Obligations.RoundTripsRestoreTheRegisters : Prop :=
  ∀ s : State, s.spHeld = true → isPlain s.cfg (stackAddr s.sp) = true → isPlain s.cfg (stackAddr (s.sp - 1)) = true →
    (∃ t, exec .pha s = .next t ∧ ∀ a p, ∃ u, exec .pla { t with a := a, p := p } = .next u ∧ u.a = s.a ∧ u.sp = s.sp) ∧
    (∀ w, ∃ t u, exec (.jsr w) s = .next t ∧ t.pc = w ∧ exec .rts t = .next u ∧ u.pc = s.pc + 3 ∧ u.sp = s.sp)

/-- BRK then RTI restores P with bits 4 and 5 set, SP, and resumes at the BRK address plus 2, on plain addresses (44_control.md
R175, R176, 95_test_vectors.md E7, 90_conflicts.md C11). Decisions the spec marks as its own: R175 (D11), R176 (D31). General
knowledge the spec marks: R175. -/
def Obligations.RtiAfterBrkRestoresFlagsAndResumes : Prop :=
  ∀ s : State, s.spHeld = true → isPlain s.cfg (stackAddr s.sp) = true → isPlain s.cfg (stackAddr (s.sp - 1)) = true →
    isPlain s.cfg (stackAddr (s.sp - 2)) = true → isPlain s.cfg 0xFFFE = true → isPlain s.cfg 0xFFFF = true →
    ∃ t u, exec .brk s = .next t ∧ t.pc = s.mem.get 0xFFFF ++ s.mem.get 0xFFFE ∧ t.p = s.p ||| 0x04 ∧
      exec .rti t = .next u ∧ u.p = s.p ||| 0x30 ∧ u.pc = s.pc + 2 ∧ u.sp = s.sp

/-- Disk registers 1 to 7: free reads, ignored writes, LBA bytes, command and status; an empty store reads 0 and ignores writes
(60_exceptions.md R224, R227, R228, R229, R230, R231). Decisions the spec marks as its own: R224 (D21), R227 (D19), R228 (D19),
R229 (D19). -/
def Obligations.DiskRegistersAnswerAsTheMapSays : Prop :=
  (∀ (s : State) (n : Nat) (v : Byte), s.disk.store = [] → diskRead n s = .ok 0x00 s ∧ diskWrite n v s = .ok () s) ∧
  ∀ (s : State) (v : Byte), s.disk.store ≠ [] →
    (∀ n, 1 ≤ n → n ≤ 6 → ∃ d, diskRead n s = .ok d { s with drawCount := s.drawCount + 1 }) ∧
    (∀ n, 1 ≤ n → n ≤ 2 → diskWrite n v s = .ok () s) ∧
    diskWrite 3 v s = .ok () { s with disk := { s.disk with lba0 := v } } ∧
    diskWrite 4 v s = .ok () { s with disk := { s.disk with lba1 := v } } ∧
    diskWrite 5 v s = .ok () { s with disk := { s.disk with lba2 := v } } ∧
    diskWrite 6 v s = .ok () { s with disk := { s.disk with lba3 := v.extractLsb' 0 4 } } ∧
    diskWrite 7 v s = .ok () { s with disk := { s.disk with
      command := if v = 0x20 then .read else if v = 0x30 then .write else .none, offset := 0 } } ∧
    (s.disk.command ≠ .none → diskRead 7 s = .ok 0x58 s) ∧ (s.disk.command = .none → diskRead 7 s = .ok 0x50 s)

/-- The data port reads or writes the byte at LBA*512+offset and advances; the command clears as DISK_CLEAR says
(60_exceptions.md R225, R226). Decisions the spec marks as its own: R225 (D19, D20). -/
def Obligations.DiskDataPortTransfersOneByte : Prop :=
  ∀ (s : State) (v : Byte) (n : Nat), s.disk.store ≠ [] →
    n = (((s.disk.lba3.toNat * 256 + s.disk.lba2.toNat) * 256 + s.disk.lba1.toNat) * 256 + s.disk.lba0.toNat) * 512 + s.disk.offset →
    (s.disk.command ≠ .read → ∃ d, diskRead 0 s = .ok d { s with drawCount := s.drawCount + 1 }) ∧
    (s.disk.command ≠ .write → diskWrite 0 v s = .ok () s) ∧
    (s.disk.command = .read → s.disk.offset = 512 →
      ∃ d, diskRead 0 s = .ok d { s with disk := { s.disk with command := .none }, drawCount := s.drawCount + 1 }) ∧
    (s.disk.command = .write → s.disk.offset = 512 →
      diskWrite 0 v s = .ok () { s with disk := { s.disk with command := .none } }) ∧
    (s.disk.command = .read → s.disk.offset ≠ 512 → ∀ b, s.disk.store[n]? = some b →
      diskRead 0 s = .ok b { s with disk := { s.disk with
        offset := s.disk.offset + 1
        command := if s.disk.offset + 1 = 512 ∧ s.cfg.diskClear = .after512th then .none else .read } }) ∧
    (s.disk.command = .write → s.disk.offset ≠ 512 → n < s.disk.store.length →
      diskWrite 0 v s = .ok () { s with disk := { s.disk with
        store := s.disk.store.set n v, offset := s.disk.offset + 1
        command := if s.disk.offset + 1 = 512 ∧ s.cfg.diskClear = .after512th then .none else .write } }) ∧
    (s.disk.offset ≠ 512 → s.disk.store.length ≤ n →
      (s.disk.command = .read → diskRead 0 s = .fault .diskOutOfRange) ∧
      (s.disk.command = .write → diskWrite 0 v s = .fault .diskOutOfRange))

/-- After a Read command 512 data-port reads give the 512 bytes of the block in order, and the status is then as DISK_CLEAR says
(60_exceptions.md R225, R230, R231, 95_test_vectors.md E8). Decisions the spec marks as its own: R225 (D19, D20). -/
def Obligations.DiskReadCommandDeliversTheSector : Prop :=
  ∀ s : State, s.disk.lba * 512 + 512 ≤ s.disk.store.length →
    ∃ s1 s2 v s3, diskWrite 7 0x20 s = .ok () s1 ∧
      readPort 512 s1 = .ok ((s.disk.store.drop (s.disk.lba * 512)).take 512) s2 ∧
      diskRead 7 s2 = .ok (if s.cfg.diskClear = .after512th then 0x50 else 0x58) s2 ∧
      diskRead 0 s2 = .ok v s3 ∧ diskRead 7 s3 = .ok 0x50 s3

/-- The timer registers: latch and high-byte writes, counter reads, flag clearing on IFR access, IER set and clear, ACR, PCR
(60_exceptions.md R235, R236, R237, R238, R239, R240, R243). Decisions the spec marks as its own: R236 (D23), R237 (D24), R238
(D24), R239 (D24), R240 (D22), R243 (D22). General knowledge the spec marks: R238, R239, R243. -/
def Obligations.TimerRegistersReadAndWriteAsTheMapSays : Prop :=
  ∀ (s : State) (t : Timer) (v : Byte), s.timer = t →
    t.write 4 v = { t with t1l := t.t1l.extractLsb' 8 8 ++ v } ∧ t.write 6 v = { t with t1l := t.t1l.extractLsb' 8 8 ++ v } ∧
    t.write 8 v = { t with t2l := t.t2l.extractLsb' 8 8 ++ v } ∧ t.write 7 v = { t with t1l := v ++ t.t1l.extractLsb' 0 8 } ∧
    t.write 5 v = { t with
      t1l := v ++ t.t1l.extractLsb' 0 8, t1c := v ++ t.t1l.extractLsb' 0 8, t1run := true, ifr := t.ifr &&& ~~~0x40
      asserted := decide (t.ifr &&& ~~~0x40 &&& t.ier &&& 0x60 ≠ 0) } ∧
    t.write 9 v = { t with
      t2l := v ++ t.t2l.extractLsb' 0 8, t2c := v ++ t.t2l.extractLsb' 0 8, t2run := true, ifr := t.ifr &&& ~~~0x20
      asserted := decide (t.ifr &&& ~~~0x20 &&& t.ier &&& 0x60 ≠ 0) } ∧
    t.write 0xB v = { t with acr := v } ∧ t.write 0xC v = { t with pcr := v } ∧
    t.write 0xD v = { t with ifr := 0, asserted := false } ∧
    t.write 0xE v = { t with ier := if v.getLsbD 7 then t.ier ||| (v &&& 0x60) else t.ier &&& ~~~(v &&& 0x60) } ∧
    (∀ n ∈ [0, 1, 2, 3, 0xA, 0xF], t.write n v = t ∧ ∃ d, timerRead n s = .ok d { s with drawCount := s.drawCount + 1 }) ∧
    timerRead 4 s = .ok (t.t1c.extractLsb' 0 8) s ∧ timerRead 5 s = .ok (t.t1c.extractLsb' 8 8) s ∧
    timerRead 6 s = .ok (t.t1l.extractLsb' 0 8) s ∧ timerRead 7 s = .ok (t.t1l.extractLsb' 8 8) s ∧
    timerRead 8 s = .ok (t.t2c.extractLsb' 0 8) s ∧ timerRead 9 s = .ok (t.t2c.extractLsb' 8 8) s ∧
    timerRead 0xB s = .ok t.acr s ∧ timerRead 0xC s = .ok t.pcr s ∧ timerRead 0xE s = .ok (t.ier ||| 0x80) s ∧
    timerRead 0xD s = .ok ((t.ifr &&& 0x60) ||| (if t.ifr &&& t.ier &&& 0x60 ≠ 0 then 0x80 else 0x00))
      { s with timer := { t with ifr := 0, asserted := false } }

/-- What one tick does to every timer; a counter started from n fires on the n-th tick and not before (0 counts as 65,536)
(60_exceptions.md R241, 95_test_vectors.md E9, X28, X30, X31). Decisions the spec marks as its own: R241 (D23). -/
def Obligations.TimerFiresOnTheNthTick : Prop :=
  (∀ t : Timer, ∃ ifr : Byte, t.tick = { t with
      t1c := if t.t1run = false then t.t1c else if t.t1c.toNat = 1 ∧ t.acr.getLsbD 6 = true then t.t1l
        else BitVec.ofNat 16 (t.t1c.toNat + 65535)
      t1run := t.t1run && (t.t1c.toNat != 1 || t.acr.getLsbD 6)
      t2c := if t.t2run = false then t.t2c else BitVec.ofNat 16 (t.t2c.toNat + 65535)
      t2run := t.t2run && t.t2c.toNat != 1
      ifr := ifr
      asserted := decide (ifr &&& t.ier &&& 0x60 ≠ 0) } ∧
    ∀ i, ifr.getLsbD i = (t.ifr.getLsbD i ||
      (decide (i = 6) && t.t1run && t.t1c.toNat == 1 && t.ier.getLsbD 6) ||
      (decide (i = 5) && t.t2run && t.t2c.toNat == 1 && t.ier.getLsbD 5))) ∧
  ∀ (t : Timer) (n : Nat), t.ifr = 0 →
    (t.t1run = true → t.t2run = false → t.ier.getLsbD 6 = true → n = (if t.t1c = 0 then 65536 else t.t1c.toNat) →
      (∀ k, k < n → 0 < k → (ticks k t).asserted = false) ∧ (ticks n t).asserted = true ∧ (ticks n t).ifr = 0x40 ∧
      (t.acr.getLsbD 6 = true → (ticks n t).t1c = t.t1l ∧ (ticks n t).t1run = true) ∧
      (t.acr.getLsbD 6 = false → (ticks n t).t1c = 0 ∧ (ticks n t).t1run = false)) ∧
    (t.t2run = true → t.t1run = false → t.ier.getLsbD 5 = true → n = (if t.t2c = 0 then 65536 else t.t2c.toNat) →
      (∀ k, k < n → 0 < k → (ticks k t).asserted = false) ∧ (ticks n t).asserted = true ∧ (ticks n t).ifr = 0x20 ∧
      (ticks n t).t2c = 0 ∧ (ticks n t).t2run = false)
end

