-- ==== Sys2Proof/Laws/Memory.lean ====
section
/-! SUPPORT. Laws of flat storage: a read after a write, and that a write keeps the canonical form. -/

namespace Sys2Proof.Machine

@[simp] theorem Memory.get_nil (a : Nat) : Memory.get [] a = 0x00 := rfl

theorem Memory.get_cons (c : Host.Cell) (m : Memory) (a : Nat) :
    Memory.get (c :: m) a = if c.1 = a then c.2 else Memory.get m a := rfl

theorem Memory.get_insert {m : Memory} {c : Host.Cell} (fresh : ∀ d ∈ m, d.1 ≠ c.1) (a : Nat) :
    Memory.get (Memory.insert c m) a = if c.1 = a then c.2 else Memory.get m a := by
  induction m with
  | nil => simp [Memory.insert, Memory.get_cons]
  | cons d m ih =>
    have hd := fresh d (by simp)
    have ih := ih (fun e he => fresh e (by simp [he]))
    simp only [Memory.insert]
    split
    · simp [Memory.get_cons]
    · simp only [Memory.get_cons, ih]
      split
      · rename_i h; subst h; simp [Ne.symm hd]
      · rfl

theorem Memory.get_filter_ne (m : Memory) (a b : Nat) :
    Memory.get (m.filter (fun c => c.1 != a)) b = if a = b then 0x00 else Memory.get m b := by
  induction m with
  | nil => simp
  | cons c m ih =>
    by_cases h : c.1 = a
    · simp only [h, bne_self_eq_false, Bool.false_eq_true, not_false_eq_true, List.filter_cons_of_neg, ih, Memory.get_cons]
      split <;> simp_all
    · simp only [bne_iff_ne, ne_eq, h, not_false_eq_true, List.filter_cons_of_pos, Memory.get_cons, ih]
      by_cases hb : c.1 = b
      · subst hb; simp [Ne.symm h]
      · simp [hb]

/-- A read after a write gives the byte written; every other byte is as before. -/
theorem Memory.get_set (m : Memory) (a b : Nat) (v : Byte) :
    (Memory.set m a v).get b = if a = b then v else m.get b := by
  simp only [Memory.set]
  split
  · rename_i h; rw [Memory.get_filter_ne, h]
  · rw [Memory.get_insert (by simp), Memory.get_filter_ne]
    split <;> rfl

theorem Memory.mem_insert (c d : Host.Cell) (m : Memory) : d ∈ Memory.insert c m ↔ d = c ∨ d ∈ m := by
  induction m with
  | nil => simp [Memory.insert]
  | cons e m ih =>
    simp only [Memory.insert]
    split
    · simp
    · simp only [List.mem_cons, ih]; tauto

theorem Memory.pairwise_insert {c : Host.Cell} {m : Memory} (fresh : ∀ d ∈ m, d.1 ≠ c.1)
    (h : m.Pairwise (fun c d => c.1 < d.1)) : (Memory.insert c m).Pairwise (fun c d => c.1 < d.1) := by
  induction m with
  | nil => simp [Memory.insert]
  | cons e m ih =>
    have he := fresh e (by simp)
    rw [List.pairwise_cons] at h
    simp only [Memory.insert]
    split
    · rename_i hlt
      refine List.pairwise_cons.2 ⟨fun d hd => ?_, List.pairwise_cons.2 h⟩
      rcases List.mem_cons.1 hd with rfl | hd
      · exact hlt
      · exact lt_trans hlt (h.1 d hd)
    · rename_i hlt
      refine List.pairwise_cons.2 ⟨fun d hd => ?_, ih (fun d hd => fresh d (by simp [hd])) h.2⟩
      rcases (Memory.mem_insert c d m).1 hd with rfl | hd
      · omega
      · exact h.1 d hd

/-- A write inside the address space keeps the canonical form. -/
theorem Memory.wf_set {m : Memory} (h : m.wf) {a : Nat} (ha : a < 65536) (v : Byte) : (Memory.set m a v).wf := by
  have hf : (m.filter (fun c => c.1 != a)).Pairwise (fun c d => c.1 < d.1) := h.1.filter _
  have hm : ∀ c ∈ m.filter (fun c => c.1 != a), c.1 < 65536 ∧ c.2 ≠ 0x00 :=
    fun c hc => h.2 c (List.mem_filter.1 hc).1
  simp only [Memory.set]
  split
  · exact ⟨hf, hm⟩
  · rename_i hv
    refine ⟨Memory.pairwise_insert (by simp) hf, fun c hc => ?_⟩
    rcases (Memory.mem_insert _ c _).1 hc with rfl | hc
    · exact ⟨ha, hv⟩
    · exact hm c hc

theorem Memory.wf_nil : Memory.wf [] := by simp [Memory.wf]

theorem Memory.le_of_mem_cellsFrom {vs : List Byte} : ∀ {a : Nat} {c : Host.Cell}, c ∈ Memory.cellsFrom a vs → a ≤ c.1 := by
  induction vs with
  | nil => simp [Memory.cellsFrom]
  | cons v vs ih =>
    intro a c hc
    simp only [Memory.cellsFrom] at hc
    split at hc
    · have := ih hc; omega
    · rcases List.mem_cons.1 hc with rfl | hc
      · exact le_refl _
      · have := ih hc; omega

theorem Memory.wf_cellsFrom {vs : List Byte} : ∀ {a : Nat}, a + vs.length ≤ 65536 → (Memory.cellsFrom a vs).wf := by
  induction vs with
  | nil => simp [Memory.cellsFrom, Memory.wf]
  | cons v vs ih =>
    intro a ha
    simp only [List.length_cons] at ha
    obtain ⟨h1, h2⟩ := ih (a := a + 1) (by omega)
    simp only [Memory.cellsFrom]
    split
    · exact ⟨h1, h2⟩
    · rename_i hv
      refine ⟨List.pairwise_cons.2 ⟨fun d hd => Memory.le_of_mem_cellsFrom hd, h1⟩, fun c hc => ?_⟩
      rcases List.mem_cons.1 hc with rfl | hc
      · exact ⟨by simp; omega, hv⟩
      · exact h2 c hc

/-- The storage of construction is canonical (R41). -/
theorem Memory.wf_ofRom {rom : List Byte} (h : rom.length ≤ 65536) : (Memory.ofRom rom).wf :=
  Memory.wf_cellsFrom (by omega)

end Sys2Proof.Machine
end

