-- ==== Sys2Proof/Laws/Res.lean ====
section
/-! SUPPORT. Sequencing of operations and step outcomes: each lemma says when a sequence gives a value or a next state. -/

namespace Sys2Proof.Machine

@[simp] theorem Res.bind_ok {α β : Type} (v : α) (s : State) (k : α → State → Res β) : (Res.ok v s).bind k = k v s := rfl

@[simp] theorem Res.bind_fault {α β : Type} (f : Fault) (k : α → State → Res β) : (Res.fault f : Res α).bind k = .fault f := rfl

theorem Res.bind_eq_ok {α β : Type} {r : Res α} {k : α → State → Res β} {w : β} {t : State} :
    r.bind k = .ok w t ↔ ∃ v u, r = .ok v u ∧ k v u = .ok w t := by
  cases r <;> simp

@[simp] theorem Res.outcome_ok (u : Unit) (s : State) (g : State → State) : (Res.ok u s).outcome g = .next (g s) := rfl

@[simp] theorem Res.outcome_fault (f : Fault) (g : State → State) : (Res.fault f).outcome g = .fault f := rfl

theorem Res.outcome_eq_next {r : Res Unit} {g : State → State} {t : State} :
    r.outcome g = .next t ↔ ∃ u, r = .ok () u ∧ g u = t := by
  cases r <;> simp

theorem Res.outcome_ne_refused (r : Res Unit) (g : State → State) (e : Refusal) : r.outcome g ≠ .refused e := by
  cases r <;> simp

@[simp] theorem onNext_next (s : State) (g : State → State) : onNext (.next s) g = .next (g s) := rfl

@[simp] theorem onNext_fault (f : Fault) (g : State → State) : onNext (.fault f) g = .fault f := rfl

@[simp] theorem onNext_refused (e : Refusal) (g : State → State) : onNext (.refused e) g = .refused e := rfl

theorem onNext_eq_next {o : Host.Outcome State Fault Refusal} {g : State → State} {t : State} :
    onNext o g = .next t ↔ ∃ u, o = .next u ∧ g u = t := by
  cases o <;> simp

end Sys2Proof.Machine
end

