-- ==== Sys2Proof/Laws/State.lean ====
section
/-! SUPPORT. One lemma per field per named update of the state: what the update leaves in each field. -/

namespace Sys2Proof.Machine

/-- The state `s` with the parts a bus access can touch (storage, devices, events and their delivery, draws) taken from `t`. -/
def State.withBus (s t : State) : State :=
  { s with mem := t.mem, disk := t.disk, timer := t.timer, events := t.events, delivered := t.delivered, drawCount := t.drawCount }

@[simp] theorem State.setP_cfg (s : State) (p : Byte) : (s.setP p).cfg = s.cfg := rfl
@[simp] theorem State.setP_a (s : State) (p : Byte) : (s.setP p).a = s.a := rfl
@[simp] theorem State.setP_x (s : State) (p : Byte) : (s.setP p).x = s.x := rfl
@[simp] theorem State.setP_y (s : State) (p : Byte) : (s.setP p).y = s.y := rfl
@[simp] theorem State.setP_sp (s : State) (p : Byte) : (s.setP p).sp = s.sp := rfl
@[simp] theorem State.setP_spHeld (s : State) (p : Byte) : (s.setP p).spHeld = s.spHeld := rfl
@[simp] theorem State.setP_p (s : State) (p : Byte) : (s.setP p).p = p := rfl
@[simp] theorem State.setP_pc (s : State) (p : Byte) : (s.setP p).pc = s.pc := rfl
@[simp] theorem State.setP_cycleClock (s : State) (p : Byte) : (s.setP p).cycleClock = s.cycleClock := rfl
@[simp] theorem State.setP_currentInstruction (s : State) (p : Byte) : (s.setP p).currentInstruction = s.currentInstruction := rfl
@[simp] theorem State.setP_irqLine (s : State) (p : Byte) : (s.setP p).irqLine = s.irqLine := rfl
@[simp] theorem State.setP_runState (s : State) (p : Byte) : (s.setP p).runState = s.runState := rfl
@[simp] theorem State.setP_stepRequest (s : State) (p : Byte) : (s.setP p).stepRequest = s.stepRequest := rfl
@[simp] theorem State.setP_cpuMode (s : State) (p : Byte) : (s.setP p).cpuMode = s.cpuMode := rfl
@[simp] theorem State.setP_mem (s : State) (p : Byte) : (s.setP p).mem = s.mem := rfl
@[simp] theorem State.setP_disk (s : State) (p : Byte) : (s.setP p).disk = s.disk := rfl
@[simp] theorem State.setP_timer (s : State) (p : Byte) : (s.setP p).timer = s.timer := rfl
@[simp] theorem State.setP_logLevel (s : State) (p : Byte) : (s.setP p).logLevel = s.logLevel := rfl
@[simp] theorem State.setP_commands (s : State) (p : Byte) : (s.setP p).commands = s.commands := rfl
@[simp] theorem State.setP_events (s : State) (p : Byte) : (s.setP p).events = s.events := rfl
@[simp] theorem State.setP_receiver (s : State) (p : Byte) : (s.setP p).receiver = s.receiver := rfl
@[simp] theorem State.setP_delivered (s : State) (p : Byte) : (s.setP p).delivered = s.delivered := rfl
@[simp] theorem State.setP_drawCount (s : State) (p : Byte) : (s.setP p).drawCount = s.drawCount := rfl

@[simp] theorem State.setFlag_cfg (s : State) (f : Flag) (b : Bool) : (s.setFlag f b).cfg = s.cfg := rfl
@[simp] theorem State.setFlag_a (s : State) (f : Flag) (b : Bool) : (s.setFlag f b).a = s.a := rfl
@[simp] theorem State.setFlag_x (s : State) (f : Flag) (b : Bool) : (s.setFlag f b).x = s.x := rfl
@[simp] theorem State.setFlag_y (s : State) (f : Flag) (b : Bool) : (s.setFlag f b).y = s.y := rfl
@[simp] theorem State.setFlag_sp (s : State) (f : Flag) (b : Bool) : (s.setFlag f b).sp = s.sp := rfl
@[simp] theorem State.setFlag_spHeld (s : State) (f : Flag) (b : Bool) : (s.setFlag f b).spHeld = s.spHeld := rfl
@[simp] theorem State.setFlag_p (s : State) (f : Flag) (b : Bool) : (s.setFlag f b).p = putFlag f b s.p := rfl
@[simp] theorem State.setFlag_pc (s : State) (f : Flag) (b : Bool) : (s.setFlag f b).pc = s.pc := rfl
@[simp] theorem State.setFlag_cycleClock (s : State) (f : Flag) (b : Bool) : (s.setFlag f b).cycleClock = s.cycleClock := rfl
@[simp] theorem State.setFlag_currentInstruction (s : State) (f : Flag) (b : Bool) : (s.setFlag f b).currentInstruction = s.currentInstruction := rfl
@[simp] theorem State.setFlag_irqLine (s : State) (f : Flag) (b : Bool) : (s.setFlag f b).irqLine = s.irqLine := rfl
@[simp] theorem State.setFlag_runState (s : State) (f : Flag) (b : Bool) : (s.setFlag f b).runState = s.runState := rfl
@[simp] theorem State.setFlag_stepRequest (s : State) (f : Flag) (b : Bool) : (s.setFlag f b).stepRequest = s.stepRequest := rfl
@[simp] theorem State.setFlag_cpuMode (s : State) (f : Flag) (b : Bool) : (s.setFlag f b).cpuMode = s.cpuMode := rfl
@[simp] theorem State.setFlag_mem (s : State) (f : Flag) (b : Bool) : (s.setFlag f b).mem = s.mem := rfl
@[simp] theorem State.setFlag_disk (s : State) (f : Flag) (b : Bool) : (s.setFlag f b).disk = s.disk := rfl
@[simp] theorem State.setFlag_timer (s : State) (f : Flag) (b : Bool) : (s.setFlag f b).timer = s.timer := rfl
@[simp] theorem State.setFlag_logLevel (s : State) (f : Flag) (b : Bool) : (s.setFlag f b).logLevel = s.logLevel := rfl
@[simp] theorem State.setFlag_commands (s : State) (f : Flag) (b : Bool) : (s.setFlag f b).commands = s.commands := rfl
@[simp] theorem State.setFlag_events (s : State) (f : Flag) (b : Bool) : (s.setFlag f b).events = s.events := rfl
@[simp] theorem State.setFlag_receiver (s : State) (f : Flag) (b : Bool) : (s.setFlag f b).receiver = s.receiver := rfl
@[simp] theorem State.setFlag_delivered (s : State) (f : Flag) (b : Bool) : (s.setFlag f b).delivered = s.delivered := rfl
@[simp] theorem State.setFlag_drawCount (s : State) (f : Flag) (b : Bool) : (s.setFlag f b).drawCount = s.drawCount := rfl

@[simp] theorem State.setSp_cfg (s : State) (v : Byte) : (s.setSp v).cfg = s.cfg := rfl
@[simp] theorem State.setSp_a (s : State) (v : Byte) : (s.setSp v).a = s.a := rfl
@[simp] theorem State.setSp_x (s : State) (v : Byte) : (s.setSp v).x = s.x := rfl
@[simp] theorem State.setSp_y (s : State) (v : Byte) : (s.setSp v).y = s.y := rfl
@[simp] theorem State.setSp_sp (s : State) (v : Byte) : (s.setSp v).sp = v := rfl
@[simp] theorem State.setSp_spHeld (s : State) (v : Byte) : (s.setSp v).spHeld = true := rfl
@[simp] theorem State.setSp_p (s : State) (v : Byte) : (s.setSp v).p = s.p := rfl
@[simp] theorem State.setSp_pc (s : State) (v : Byte) : (s.setSp v).pc = s.pc := rfl
@[simp] theorem State.setSp_cycleClock (s : State) (v : Byte) : (s.setSp v).cycleClock = s.cycleClock := rfl
@[simp] theorem State.setSp_currentInstruction (s : State) (v : Byte) : (s.setSp v).currentInstruction = s.currentInstruction := rfl
@[simp] theorem State.setSp_irqLine (s : State) (v : Byte) : (s.setSp v).irqLine = s.irqLine := rfl
@[simp] theorem State.setSp_runState (s : State) (v : Byte) : (s.setSp v).runState = s.runState := rfl
@[simp] theorem State.setSp_stepRequest (s : State) (v : Byte) : (s.setSp v).stepRequest = s.stepRequest := rfl
@[simp] theorem State.setSp_cpuMode (s : State) (v : Byte) : (s.setSp v).cpuMode = s.cpuMode := rfl
@[simp] theorem State.setSp_mem (s : State) (v : Byte) : (s.setSp v).mem = s.mem := rfl
@[simp] theorem State.setSp_disk (s : State) (v : Byte) : (s.setSp v).disk = s.disk := rfl
@[simp] theorem State.setSp_timer (s : State) (v : Byte) : (s.setSp v).timer = s.timer := rfl
@[simp] theorem State.setSp_logLevel (s : State) (v : Byte) : (s.setSp v).logLevel = s.logLevel := rfl
@[simp] theorem State.setSp_commands (s : State) (v : Byte) : (s.setSp v).commands = s.commands := rfl
@[simp] theorem State.setSp_events (s : State) (v : Byte) : (s.setSp v).events = s.events := rfl
@[simp] theorem State.setSp_receiver (s : State) (v : Byte) : (s.setSp v).receiver = s.receiver := rfl
@[simp] theorem State.setSp_delivered (s : State) (v : Byte) : (s.setSp v).delivered = s.delivered := rfl
@[simp] theorem State.setSp_drawCount (s : State) (v : Byte) : (s.setSp v).drawCount = s.drawCount := rfl

@[simp] theorem State.setPc_cfg (s : State) (v : Addr) : (s.setPc v).cfg = s.cfg := rfl
@[simp] theorem State.setPc_a (s : State) (v : Addr) : (s.setPc v).a = s.a := rfl
@[simp] theorem State.setPc_x (s : State) (v : Addr) : (s.setPc v).x = s.x := rfl
@[simp] theorem State.setPc_y (s : State) (v : Addr) : (s.setPc v).y = s.y := rfl
@[simp] theorem State.setPc_sp (s : State) (v : Addr) : (s.setPc v).sp = s.sp := rfl
@[simp] theorem State.setPc_spHeld (s : State) (v : Addr) : (s.setPc v).spHeld = s.spHeld := rfl
@[simp] theorem State.setPc_p (s : State) (v : Addr) : (s.setPc v).p = s.p := rfl
@[simp] theorem State.setPc_pc (s : State) (v : Addr) : (s.setPc v).pc = v := rfl
@[simp] theorem State.setPc_cycleClock (s : State) (v : Addr) : (s.setPc v).cycleClock = s.cycleClock := rfl
@[simp] theorem State.setPc_currentInstruction (s : State) (v : Addr) : (s.setPc v).currentInstruction = s.currentInstruction := rfl
@[simp] theorem State.setPc_irqLine (s : State) (v : Addr) : (s.setPc v).irqLine = s.irqLine := rfl
@[simp] theorem State.setPc_runState (s : State) (v : Addr) : (s.setPc v).runState = s.runState := rfl
@[simp] theorem State.setPc_stepRequest (s : State) (v : Addr) : (s.setPc v).stepRequest = s.stepRequest := rfl
@[simp] theorem State.setPc_cpuMode (s : State) (v : Addr) : (s.setPc v).cpuMode = s.cpuMode := rfl
@[simp] theorem State.setPc_mem (s : State) (v : Addr) : (s.setPc v).mem = s.mem := rfl
@[simp] theorem State.setPc_disk (s : State) (v : Addr) : (s.setPc v).disk = s.disk := rfl
@[simp] theorem State.setPc_timer (s : State) (v : Addr) : (s.setPc v).timer = s.timer := rfl
@[simp] theorem State.setPc_logLevel (s : State) (v : Addr) : (s.setPc v).logLevel = s.logLevel := rfl
@[simp] theorem State.setPc_commands (s : State) (v : Addr) : (s.setPc v).commands = s.commands := rfl
@[simp] theorem State.setPc_events (s : State) (v : Addr) : (s.setPc v).events = s.events := rfl
@[simp] theorem State.setPc_receiver (s : State) (v : Addr) : (s.setPc v).receiver = s.receiver := rfl
@[simp] theorem State.setPc_delivered (s : State) (v : Addr) : (s.setPc v).delivered = s.delivered := rfl
@[simp] theorem State.setPc_drawCount (s : State) (v : Addr) : (s.setPc v).drawCount = s.drawCount := rfl

@[simp] theorem State.addCycles_cfg (s : State) (n : Nat) : (s.addCycles n).cfg = s.cfg := rfl
@[simp] theorem State.addCycles_a (s : State) (n : Nat) : (s.addCycles n).a = s.a := rfl
@[simp] theorem State.addCycles_x (s : State) (n : Nat) : (s.addCycles n).x = s.x := rfl
@[simp] theorem State.addCycles_y (s : State) (n : Nat) : (s.addCycles n).y = s.y := rfl
@[simp] theorem State.addCycles_sp (s : State) (n : Nat) : (s.addCycles n).sp = s.sp := rfl
@[simp] theorem State.addCycles_spHeld (s : State) (n : Nat) : (s.addCycles n).spHeld = s.spHeld := rfl
@[simp] theorem State.addCycles_p (s : State) (n : Nat) : (s.addCycles n).p = s.p := rfl
@[simp] theorem State.addCycles_pc (s : State) (n : Nat) : (s.addCycles n).pc = s.pc := rfl
@[simp] theorem State.addCycles_cycleClock (s : State) (n : Nat) : (s.addCycles n).cycleClock = (s.cycleClock + n) % 2 ^ s.cfg.clockWidth := rfl
@[simp] theorem State.addCycles_currentInstruction (s : State) (n : Nat) : (s.addCycles n).currentInstruction = s.currentInstruction := rfl
@[simp] theorem State.addCycles_irqLine (s : State) (n : Nat) : (s.addCycles n).irqLine = s.irqLine := rfl
@[simp] theorem State.addCycles_runState (s : State) (n : Nat) : (s.addCycles n).runState = s.runState := rfl
@[simp] theorem State.addCycles_stepRequest (s : State) (n : Nat) : (s.addCycles n).stepRequest = s.stepRequest := rfl
@[simp] theorem State.addCycles_cpuMode (s : State) (n : Nat) : (s.addCycles n).cpuMode = s.cpuMode := rfl
@[simp] theorem State.addCycles_mem (s : State) (n : Nat) : (s.addCycles n).mem = s.mem := rfl
@[simp] theorem State.addCycles_disk (s : State) (n : Nat) : (s.addCycles n).disk = s.disk := rfl
@[simp] theorem State.addCycles_timer (s : State) (n : Nat) : (s.addCycles n).timer = s.timer := rfl
@[simp] theorem State.addCycles_logLevel (s : State) (n : Nat) : (s.addCycles n).logLevel = s.logLevel := rfl
@[simp] theorem State.addCycles_commands (s : State) (n : Nat) : (s.addCycles n).commands = s.commands := rfl
@[simp] theorem State.addCycles_events (s : State) (n : Nat) : (s.addCycles n).events = s.events := rfl
@[simp] theorem State.addCycles_receiver (s : State) (n : Nat) : (s.addCycles n).receiver = s.receiver := rfl
@[simp] theorem State.addCycles_delivered (s : State) (n : Nat) : (s.addCycles n).delivered = s.delivered := rfl
@[simp] theorem State.addCycles_drawCount (s : State) (n : Nat) : (s.addCycles n).drawCount = s.drawCount := rfl

@[simp] theorem State.charge_cfg (s : State) : (s.charge).cfg = s.cfg := rfl
@[simp] theorem State.charge_a (s : State) : (s.charge).a = s.a := rfl
@[simp] theorem State.charge_x (s : State) : (s.charge).x = s.x := rfl
@[simp] theorem State.charge_y (s : State) : (s.charge).y = s.y := rfl
@[simp] theorem State.charge_sp (s : State) : (s.charge).sp = s.sp := rfl
@[simp] theorem State.charge_spHeld (s : State) : (s.charge).spHeld = s.spHeld := rfl
@[simp] theorem State.charge_p (s : State) : (s.charge).p = s.p := rfl
@[simp] theorem State.charge_pc (s : State) : (s.charge).pc = s.pc := rfl
@[simp] theorem State.charge_cycleClock (s : State) : (s.charge).cycleClock = (s.cycleClock + cyclesOf s.cfg s.currentInstruction) % 2 ^ s.cfg.clockWidth := rfl
@[simp] theorem State.charge_currentInstruction (s : State) : (s.charge).currentInstruction = s.currentInstruction := rfl
@[simp] theorem State.charge_irqLine (s : State) : (s.charge).irqLine = s.irqLine := rfl
@[simp] theorem State.charge_runState (s : State) : (s.charge).runState = s.runState := rfl
@[simp] theorem State.charge_stepRequest (s : State) : (s.charge).stepRequest = s.stepRequest := rfl
@[simp] theorem State.charge_cpuMode (s : State) : (s.charge).cpuMode = s.cpuMode := rfl
@[simp] theorem State.charge_mem (s : State) : (s.charge).mem = s.mem := rfl
@[simp] theorem State.charge_disk (s : State) : (s.charge).disk = s.disk := rfl
@[simp] theorem State.charge_timer (s : State) : (s.charge).timer = s.timer := rfl
@[simp] theorem State.charge_logLevel (s : State) : (s.charge).logLevel = s.logLevel := rfl
@[simp] theorem State.charge_commands (s : State) : (s.charge).commands = s.commands := rfl
@[simp] theorem State.charge_events (s : State) : (s.charge).events = s.events := rfl
@[simp] theorem State.charge_receiver (s : State) : (s.charge).receiver = s.receiver := rfl
@[simp] theorem State.charge_delivered (s : State) : (s.charge).delivered = s.delivered := rfl
@[simp] theorem State.charge_drawCount (s : State) : (s.charge).drawCount = s.drawCount := rfl

@[simp] theorem State.retire_cfg (s : State) (n : Nat) : (s.retire n).cfg = s.cfg := rfl
@[simp] theorem State.retire_a (s : State) (n : Nat) : (s.retire n).a = s.a := rfl
@[simp] theorem State.retire_x (s : State) (n : Nat) : (s.retire n).x = s.x := rfl
@[simp] theorem State.retire_y (s : State) (n : Nat) : (s.retire n).y = s.y := rfl
@[simp] theorem State.retire_sp (s : State) (n : Nat) : (s.retire n).sp = s.sp := rfl
@[simp] theorem State.retire_spHeld (s : State) (n : Nat) : (s.retire n).spHeld = s.spHeld := rfl
@[simp] theorem State.retire_p (s : State) (n : Nat) : (s.retire n).p = s.p := rfl
@[simp] theorem State.retire_pc (s : State) (n : Nat) : (s.retire n).pc = s.pc + BitVec.ofNat 16 n := rfl
@[simp] theorem State.retire_cycleClock (s : State) (n : Nat) : (s.retire n).cycleClock = (s.cycleClock + cyclesOf s.cfg s.currentInstruction) % 2 ^ s.cfg.clockWidth := rfl
@[simp] theorem State.retire_currentInstruction (s : State) (n : Nat) : (s.retire n).currentInstruction = s.currentInstruction := rfl
@[simp] theorem State.retire_irqLine (s : State) (n : Nat) : (s.retire n).irqLine = s.irqLine := rfl
@[simp] theorem State.retire_runState (s : State) (n : Nat) : (s.retire n).runState = s.runState := rfl
@[simp] theorem State.retire_stepRequest (s : State) (n : Nat) : (s.retire n).stepRequest = s.stepRequest := rfl
@[simp] theorem State.retire_cpuMode (s : State) (n : Nat) : (s.retire n).cpuMode = s.cpuMode := rfl
@[simp] theorem State.retire_mem (s : State) (n : Nat) : (s.retire n).mem = s.mem := rfl
@[simp] theorem State.retire_disk (s : State) (n : Nat) : (s.retire n).disk = s.disk := rfl
@[simp] theorem State.retire_timer (s : State) (n : Nat) : (s.retire n).timer = s.timer := rfl
@[simp] theorem State.retire_logLevel (s : State) (n : Nat) : (s.retire n).logLevel = s.logLevel := rfl
@[simp] theorem State.retire_commands (s : State) (n : Nat) : (s.retire n).commands = s.commands := rfl
@[simp] theorem State.retire_events (s : State) (n : Nat) : (s.retire n).events = s.events := rfl
@[simp] theorem State.retire_receiver (s : State) (n : Nat) : (s.retire n).receiver = s.receiver := rfl
@[simp] theorem State.retire_delivered (s : State) (n : Nat) : (s.retire n).delivered = s.delivered := rfl
@[simp] theorem State.retire_drawCount (s : State) (n : Nat) : (s.retire n).drawCount = s.drawCount := rfl

@[simp] theorem State.drawn_cfg (s : State) : (s.drawn).cfg = s.cfg := rfl
@[simp] theorem State.drawn_a (s : State) : (s.drawn).a = s.a := rfl
@[simp] theorem State.drawn_x (s : State) : (s.drawn).x = s.x := rfl
@[simp] theorem State.drawn_y (s : State) : (s.drawn).y = s.y := rfl
@[simp] theorem State.drawn_sp (s : State) : (s.drawn).sp = s.sp := rfl
@[simp] theorem State.drawn_spHeld (s : State) : (s.drawn).spHeld = s.spHeld := rfl
@[simp] theorem State.drawn_p (s : State) : (s.drawn).p = s.p := rfl
@[simp] theorem State.drawn_pc (s : State) : (s.drawn).pc = s.pc := rfl
@[simp] theorem State.drawn_cycleClock (s : State) : (s.drawn).cycleClock = s.cycleClock := rfl
@[simp] theorem State.drawn_currentInstruction (s : State) : (s.drawn).currentInstruction = s.currentInstruction := rfl
@[simp] theorem State.drawn_irqLine (s : State) : (s.drawn).irqLine = s.irqLine := rfl
@[simp] theorem State.drawn_runState (s : State) : (s.drawn).runState = s.runState := rfl
@[simp] theorem State.drawn_stepRequest (s : State) : (s.drawn).stepRequest = s.stepRequest := rfl
@[simp] theorem State.drawn_cpuMode (s : State) : (s.drawn).cpuMode = s.cpuMode := rfl
@[simp] theorem State.drawn_mem (s : State) : (s.drawn).mem = s.mem := rfl
@[simp] theorem State.drawn_disk (s : State) : (s.drawn).disk = s.disk := rfl
@[simp] theorem State.drawn_timer (s : State) : (s.drawn).timer = s.timer := rfl
@[simp] theorem State.drawn_logLevel (s : State) : (s.drawn).logLevel = s.logLevel := rfl
@[simp] theorem State.drawn_commands (s : State) : (s.drawn).commands = s.commands := rfl
@[simp] theorem State.drawn_events (s : State) : (s.drawn).events = s.events := rfl
@[simp] theorem State.drawn_receiver (s : State) : (s.drawn).receiver = s.receiver := rfl
@[simp] theorem State.drawn_delivered (s : State) : (s.drawn).delivered = s.delivered := rfl
@[simp] theorem State.drawn_drawCount (s : State) : (s.drawn).drawCount = s.drawCount + 1 := rfl

@[simp] theorem State.storeByte_cfg (s : State) (b : Addr) (v : Byte) : (s.storeByte b v).cfg = s.cfg := rfl
@[simp] theorem State.storeByte_a (s : State) (b : Addr) (v : Byte) : (s.storeByte b v).a = s.a := rfl
@[simp] theorem State.storeByte_x (s : State) (b : Addr) (v : Byte) : (s.storeByte b v).x = s.x := rfl
@[simp] theorem State.storeByte_y (s : State) (b : Addr) (v : Byte) : (s.storeByte b v).y = s.y := rfl
@[simp] theorem State.storeByte_sp (s : State) (b : Addr) (v : Byte) : (s.storeByte b v).sp = s.sp := rfl
@[simp] theorem State.storeByte_spHeld (s : State) (b : Addr) (v : Byte) : (s.storeByte b v).spHeld = s.spHeld := rfl
@[simp] theorem State.storeByte_p (s : State) (b : Addr) (v : Byte) : (s.storeByte b v).p = s.p := rfl
@[simp] theorem State.storeByte_pc (s : State) (b : Addr) (v : Byte) : (s.storeByte b v).pc = s.pc := rfl
@[simp] theorem State.storeByte_cycleClock (s : State) (b : Addr) (v : Byte) : (s.storeByte b v).cycleClock = s.cycleClock := rfl
@[simp] theorem State.storeByte_currentInstruction (s : State) (b : Addr) (v : Byte) : (s.storeByte b v).currentInstruction = s.currentInstruction := rfl
@[simp] theorem State.storeByte_irqLine (s : State) (b : Addr) (v : Byte) : (s.storeByte b v).irqLine = s.irqLine := rfl
@[simp] theorem State.storeByte_runState (s : State) (b : Addr) (v : Byte) : (s.storeByte b v).runState = s.runState := rfl
@[simp] theorem State.storeByte_stepRequest (s : State) (b : Addr) (v : Byte) : (s.storeByte b v).stepRequest = s.stepRequest := rfl
@[simp] theorem State.storeByte_cpuMode (s : State) (b : Addr) (v : Byte) : (s.storeByte b v).cpuMode = s.cpuMode := rfl
@[simp] theorem State.storeByte_mem (s : State) (b : Addr) (v : Byte) : (s.storeByte b v).mem = s.mem.set b.toNat v := rfl
@[simp] theorem State.storeByte_disk (s : State) (b : Addr) (v : Byte) : (s.storeByte b v).disk = s.disk := rfl
@[simp] theorem State.storeByte_timer (s : State) (b : Addr) (v : Byte) : (s.storeByte b v).timer = s.timer := rfl
@[simp] theorem State.storeByte_logLevel (s : State) (b : Addr) (v : Byte) : (s.storeByte b v).logLevel = s.logLevel := rfl
@[simp] theorem State.storeByte_commands (s : State) (b : Addr) (v : Byte) : (s.storeByte b v).commands = s.commands := rfl
@[simp] theorem State.storeByte_events (s : State) (b : Addr) (v : Byte) : (s.storeByte b v).events = s.events := rfl
@[simp] theorem State.storeByte_receiver (s : State) (b : Addr) (v : Byte) : (s.storeByte b v).receiver = s.receiver := rfl
@[simp] theorem State.storeByte_delivered (s : State) (b : Addr) (v : Byte) : (s.storeByte b v).delivered = s.delivered := rfl
@[simp] theorem State.storeByte_drawCount (s : State) (b : Addr) (v : Byte) : (s.storeByte b v).drawCount = s.drawCount := rfl

@[simp] theorem State.emit_cfg (s : State) (e : EngineEvent) : (s.emit e).cfg = s.cfg := rfl
@[simp] theorem State.emit_a (s : State) (e : EngineEvent) : (s.emit e).a = s.a := rfl
@[simp] theorem State.emit_x (s : State) (e : EngineEvent) : (s.emit e).x = s.x := rfl
@[simp] theorem State.emit_y (s : State) (e : EngineEvent) : (s.emit e).y = s.y := rfl
@[simp] theorem State.emit_sp (s : State) (e : EngineEvent) : (s.emit e).sp = s.sp := rfl
@[simp] theorem State.emit_spHeld (s : State) (e : EngineEvent) : (s.emit e).spHeld = s.spHeld := rfl
@[simp] theorem State.emit_p (s : State) (e : EngineEvent) : (s.emit e).p = s.p := rfl
@[simp] theorem State.emit_pc (s : State) (e : EngineEvent) : (s.emit e).pc = s.pc := rfl
@[simp] theorem State.emit_cycleClock (s : State) (e : EngineEvent) : (s.emit e).cycleClock = s.cycleClock := rfl
@[simp] theorem State.emit_currentInstruction (s : State) (e : EngineEvent) : (s.emit e).currentInstruction = s.currentInstruction := rfl
@[simp] theorem State.emit_irqLine (s : State) (e : EngineEvent) : (s.emit e).irqLine = s.irqLine := rfl
@[simp] theorem State.emit_runState (s : State) (e : EngineEvent) : (s.emit e).runState = s.runState := rfl
@[simp] theorem State.emit_stepRequest (s : State) (e : EngineEvent) : (s.emit e).stepRequest = s.stepRequest := rfl
@[simp] theorem State.emit_cpuMode (s : State) (e : EngineEvent) : (s.emit e).cpuMode = s.cpuMode := rfl
@[simp] theorem State.emit_mem (s : State) (e : EngineEvent) : (s.emit e).mem = s.mem := rfl
@[simp] theorem State.emit_disk (s : State) (e : EngineEvent) : (s.emit e).disk = s.disk := rfl
@[simp] theorem State.emit_timer (s : State) (e : EngineEvent) : (s.emit e).timer = s.timer := rfl
@[simp] theorem State.emit_logLevel (s : State) (e : EngineEvent) : (s.emit e).logLevel = s.logLevel := rfl
@[simp] theorem State.emit_commands (s : State) (e : EngineEvent) : (s.emit e).commands = s.commands := rfl
@[simp] theorem State.emit_events (s : State) (e : EngineEvent) : (s.emit e).events = s.events ++ [e] := rfl
@[simp] theorem State.emit_receiver (s : State) (e : EngineEvent) : (s.emit e).receiver = s.receiver := rfl
@[simp] theorem State.emit_delivered (s : State) (e : EngineEvent) :
    (s.emit e).delivered = s.delivered ++ s.receiver.arrivals s.events.length [e] := rfl
@[simp] theorem State.emit_drawCount (s : State) (e : EngineEvent) : (s.emit e).drawCount = s.drawCount := rfl

@[simp] theorem State.withBus_cfg (s : State) (t : State) : (s.withBus t).cfg = s.cfg := rfl
@[simp] theorem State.withBus_a (s : State) (t : State) : (s.withBus t).a = s.a := rfl
@[simp] theorem State.withBus_x (s : State) (t : State) : (s.withBus t).x = s.x := rfl
@[simp] theorem State.withBus_y (s : State) (t : State) : (s.withBus t).y = s.y := rfl
@[simp] theorem State.withBus_sp (s : State) (t : State) : (s.withBus t).sp = s.sp := rfl
@[simp] theorem State.withBus_spHeld (s : State) (t : State) : (s.withBus t).spHeld = s.spHeld := rfl
@[simp] theorem State.withBus_p (s : State) (t : State) : (s.withBus t).p = s.p := rfl
@[simp] theorem State.withBus_pc (s : State) (t : State) : (s.withBus t).pc = s.pc := rfl
@[simp] theorem State.withBus_cycleClock (s : State) (t : State) : (s.withBus t).cycleClock = s.cycleClock := rfl
@[simp] theorem State.withBus_currentInstruction (s : State) (t : State) : (s.withBus t).currentInstruction = s.currentInstruction := rfl
@[simp] theorem State.withBus_irqLine (s : State) (t : State) : (s.withBus t).irqLine = s.irqLine := rfl
@[simp] theorem State.withBus_runState (s : State) (t : State) : (s.withBus t).runState = s.runState := rfl
@[simp] theorem State.withBus_stepRequest (s : State) (t : State) : (s.withBus t).stepRequest = s.stepRequest := rfl
@[simp] theorem State.withBus_cpuMode (s : State) (t : State) : (s.withBus t).cpuMode = s.cpuMode := rfl
@[simp] theorem State.withBus_mem (s : State) (t : State) : (s.withBus t).mem = t.mem := rfl
@[simp] theorem State.withBus_disk (s : State) (t : State) : (s.withBus t).disk = t.disk := rfl
@[simp] theorem State.withBus_timer (s : State) (t : State) : (s.withBus t).timer = t.timer := rfl
@[simp] theorem State.withBus_logLevel (s : State) (t : State) : (s.withBus t).logLevel = s.logLevel := rfl
@[simp] theorem State.withBus_commands (s : State) (t : State) : (s.withBus t).commands = s.commands := rfl
@[simp] theorem State.withBus_events (s : State) (t : State) : (s.withBus t).events = t.events := rfl
@[simp] theorem State.withBus_receiver (s : State) (t : State) : (s.withBus t).receiver = s.receiver := rfl
@[simp] theorem State.withBus_delivered (s : State) (t : State) : (s.withBus t).delivered = t.delivered := rfl
@[simp] theorem State.withBus_drawCount (s : State) (t : State) : (s.withBus t).drawCount = t.drawCount := rfl

@[simp] theorem State.setReg_cfg (s : State) (r : Reg) (v : Byte) : (s.setReg r v).cfg = s.cfg := by cases r <;> rfl
@[simp] theorem State.setReg_a (s : State) (r : Reg) (v : Byte) : (s.setReg r v).a = if r = .a then v else s.a := by cases r <;> rfl
@[simp] theorem State.setReg_x (s : State) (r : Reg) (v : Byte) : (s.setReg r v).x = if r = .x then v else s.x := by cases r <;> rfl
@[simp] theorem State.setReg_y (s : State) (r : Reg) (v : Byte) : (s.setReg r v).y = if r = .y then v else s.y := by cases r <;> rfl
@[simp] theorem State.setReg_sp (s : State) (r : Reg) (v : Byte) : (s.setReg r v).sp = s.sp := by cases r <;> rfl
@[simp] theorem State.setReg_spHeld (s : State) (r : Reg) (v : Byte) : (s.setReg r v).spHeld = s.spHeld := by cases r <;> rfl
@[simp] theorem State.setReg_p (s : State) (r : Reg) (v : Byte) : (s.setReg r v).p = s.p := by cases r <;> rfl
@[simp] theorem State.setReg_pc (s : State) (r : Reg) (v : Byte) : (s.setReg r v).pc = s.pc := by cases r <;> rfl
@[simp] theorem State.setReg_cycleClock (s : State) (r : Reg) (v : Byte) : (s.setReg r v).cycleClock = s.cycleClock := by cases r <;> rfl
@[simp] theorem State.setReg_currentInstruction (s : State) (r : Reg) (v : Byte) : (s.setReg r v).currentInstruction = s.currentInstruction := by cases r <;> rfl
@[simp] theorem State.setReg_irqLine (s : State) (r : Reg) (v : Byte) : (s.setReg r v).irqLine = s.irqLine := by cases r <;> rfl
@[simp] theorem State.setReg_runState (s : State) (r : Reg) (v : Byte) : (s.setReg r v).runState = s.runState := by cases r <;> rfl
@[simp] theorem State.setReg_stepRequest (s : State) (r : Reg) (v : Byte) : (s.setReg r v).stepRequest = s.stepRequest := by cases r <;> rfl
@[simp] theorem State.setReg_cpuMode (s : State) (r : Reg) (v : Byte) : (s.setReg r v).cpuMode = s.cpuMode := by cases r <;> rfl
@[simp] theorem State.setReg_mem (s : State) (r : Reg) (v : Byte) : (s.setReg r v).mem = s.mem := by cases r <;> rfl
@[simp] theorem State.setReg_disk (s : State) (r : Reg) (v : Byte) : (s.setReg r v).disk = s.disk := by cases r <;> rfl
@[simp] theorem State.setReg_timer (s : State) (r : Reg) (v : Byte) : (s.setReg r v).timer = s.timer := by cases r <;> rfl
@[simp] theorem State.setReg_logLevel (s : State) (r : Reg) (v : Byte) : (s.setReg r v).logLevel = s.logLevel := by cases r <;> rfl
@[simp] theorem State.setReg_commands (s : State) (r : Reg) (v : Byte) : (s.setReg r v).commands = s.commands := by cases r <;> rfl
@[simp] theorem State.setReg_events (s : State) (r : Reg) (v : Byte) : (s.setReg r v).events = s.events := by cases r <;> rfl
@[simp] theorem State.setReg_receiver (s : State) (r : Reg) (v : Byte) : (s.setReg r v).receiver = s.receiver := by cases r <;> rfl
@[simp] theorem State.setReg_delivered (s : State) (r : Reg) (v : Byte) : (s.setReg r v).delivered = s.delivered := by cases r <;> rfl
@[simp] theorem State.setReg_drawCount (s : State) (r : Reg) (v : Byte) : (s.setReg r v).drawCount = s.drawCount := by cases r <;> rfl

@[simp] theorem State.setRegNZ_cfg (s : State) (r : Reg) (v : Byte) : (s.setRegNZ r v).cfg = s.cfg := by cases r <;> rfl
@[simp] theorem State.setRegNZ_a (s : State) (r : Reg) (v : Byte) : (s.setRegNZ r v).a = if r = .a then v else s.a := by cases r <;> rfl
@[simp] theorem State.setRegNZ_x (s : State) (r : Reg) (v : Byte) : (s.setRegNZ r v).x = if r = .x then v else s.x := by cases r <;> rfl
@[simp] theorem State.setRegNZ_y (s : State) (r : Reg) (v : Byte) : (s.setRegNZ r v).y = if r = .y then v else s.y := by cases r <;> rfl
@[simp] theorem State.setRegNZ_sp (s : State) (r : Reg) (v : Byte) : (s.setRegNZ r v).sp = s.sp := by cases r <;> rfl
@[simp] theorem State.setRegNZ_spHeld (s : State) (r : Reg) (v : Byte) : (s.setRegNZ r v).spHeld = s.spHeld := by cases r <;> rfl
@[simp] theorem State.setRegNZ_p (s : State) (r : Reg) (v : Byte) : (s.setRegNZ r v).p = setNZ v s.p := by cases r <;> rfl
@[simp] theorem State.setRegNZ_pc (s : State) (r : Reg) (v : Byte) : (s.setRegNZ r v).pc = s.pc := by cases r <;> rfl
@[simp] theorem State.setRegNZ_cycleClock (s : State) (r : Reg) (v : Byte) : (s.setRegNZ r v).cycleClock = s.cycleClock := by cases r <;> rfl
@[simp] theorem State.setRegNZ_currentInstruction (s : State) (r : Reg) (v : Byte) : (s.setRegNZ r v).currentInstruction = s.currentInstruction := by cases r <;> rfl
@[simp] theorem State.setRegNZ_irqLine (s : State) (r : Reg) (v : Byte) : (s.setRegNZ r v).irqLine = s.irqLine := by cases r <;> rfl
@[simp] theorem State.setRegNZ_runState (s : State) (r : Reg) (v : Byte) : (s.setRegNZ r v).runState = s.runState := by cases r <;> rfl
@[simp] theorem State.setRegNZ_stepRequest (s : State) (r : Reg) (v : Byte) : (s.setRegNZ r v).stepRequest = s.stepRequest := by cases r <;> rfl
@[simp] theorem State.setRegNZ_cpuMode (s : State) (r : Reg) (v : Byte) : (s.setRegNZ r v).cpuMode = s.cpuMode := by cases r <;> rfl
@[simp] theorem State.setRegNZ_mem (s : State) (r : Reg) (v : Byte) : (s.setRegNZ r v).mem = s.mem := by cases r <;> rfl
@[simp] theorem State.setRegNZ_disk (s : State) (r : Reg) (v : Byte) : (s.setRegNZ r v).disk = s.disk := by cases r <;> rfl
@[simp] theorem State.setRegNZ_timer (s : State) (r : Reg) (v : Byte) : (s.setRegNZ r v).timer = s.timer := by cases r <;> rfl
@[simp] theorem State.setRegNZ_logLevel (s : State) (r : Reg) (v : Byte) : (s.setRegNZ r v).logLevel = s.logLevel := by cases r <;> rfl
@[simp] theorem State.setRegNZ_commands (s : State) (r : Reg) (v : Byte) : (s.setRegNZ r v).commands = s.commands := by cases r <;> rfl
@[simp] theorem State.setRegNZ_events (s : State) (r : Reg) (v : Byte) : (s.setRegNZ r v).events = s.events := by cases r <;> rfl
@[simp] theorem State.setRegNZ_receiver (s : State) (r : Reg) (v : Byte) : (s.setRegNZ r v).receiver = s.receiver := by cases r <;> rfl
@[simp] theorem State.setRegNZ_delivered (s : State) (r : Reg) (v : Byte) : (s.setRegNZ r v).delivered = s.delivered := by cases r <;> rfl
@[simp] theorem State.setRegNZ_drawCount (s : State) (r : Reg) (v : Byte) : (s.setRegNZ r v).drawCount = s.drawCount := by cases r <;> rfl

@[simp] theorem State.latchOpcode_cfg (s : State) (op : Byte) : (s.latchOpcode op).cfg = s.cfg := rfl
@[simp] theorem State.latchOpcode_a (s : State) (op : Byte) : (s.latchOpcode op).a = s.a := rfl
@[simp] theorem State.latchOpcode_x (s : State) (op : Byte) : (s.latchOpcode op).x = s.x := rfl
@[simp] theorem State.latchOpcode_y (s : State) (op : Byte) : (s.latchOpcode op).y = s.y := rfl
@[simp] theorem State.latchOpcode_sp (s : State) (op : Byte) : (s.latchOpcode op).sp = s.sp := rfl
@[simp] theorem State.latchOpcode_spHeld (s : State) (op : Byte) : (s.latchOpcode op).spHeld = s.spHeld := rfl
@[simp] theorem State.latchOpcode_p (s : State) (op : Byte) : (s.latchOpcode op).p = s.p := rfl
@[simp] theorem State.latchOpcode_pc (s : State) (op : Byte) : (s.latchOpcode op).pc = s.pc := rfl
@[simp] theorem State.latchOpcode_cycleClock (s : State) (op : Byte) : (s.latchOpcode op).cycleClock = s.cycleClock := rfl
@[simp] theorem State.latchOpcode_currentInstruction (s : State) (op : Byte) : (s.latchOpcode op).currentInstruction = op := rfl
@[simp] theorem State.latchOpcode_irqLine (s : State) (op : Byte) : (s.latchOpcode op).irqLine = s.irqLine := rfl
@[simp] theorem State.latchOpcode_runState (s : State) (op : Byte) : (s.latchOpcode op).runState = s.runState := rfl
@[simp] theorem State.latchOpcode_stepRequest (s : State) (op : Byte) : (s.latchOpcode op).stepRequest = s.stepRequest := rfl
@[simp] theorem State.latchOpcode_cpuMode (s : State) (op : Byte) : (s.latchOpcode op).cpuMode = s.cpuMode := rfl
@[simp] theorem State.latchOpcode_mem (s : State) (op : Byte) : (s.latchOpcode op).mem = s.mem := rfl
@[simp] theorem State.latchOpcode_disk (s : State) (op : Byte) : (s.latchOpcode op).disk = s.disk := rfl
@[simp] theorem State.latchOpcode_timer (s : State) (op : Byte) : (s.latchOpcode op).timer = s.timer := rfl
@[simp] theorem State.latchOpcode_logLevel (s : State) (op : Byte) : (s.latchOpcode op).logLevel = s.logLevel := rfl
@[simp] theorem State.latchOpcode_commands (s : State) (op : Byte) : (s.latchOpcode op).commands = s.commands := rfl
@[simp] theorem State.latchOpcode_events (s : State) (op : Byte) : (s.latchOpcode op).events = s.events := rfl
@[simp] theorem State.latchOpcode_receiver (s : State) (op : Byte) : (s.latchOpcode op).receiver = s.receiver := rfl
@[simp] theorem State.latchOpcode_delivered (s : State) (op : Byte) : (s.latchOpcode op).delivered = s.delivered := rfl
@[simp] theorem State.latchOpcode_drawCount (s : State) (op : Byte) : (s.latchOpcode op).drawCount = s.drawCount := rfl

@[simp] theorem State.setMode_cfg (s : State) (m : CpuMode) : (s.setMode m).cfg = s.cfg := rfl
@[simp] theorem State.setMode_a (s : State) (m : CpuMode) : (s.setMode m).a = s.a := rfl
@[simp] theorem State.setMode_x (s : State) (m : CpuMode) : (s.setMode m).x = s.x := rfl
@[simp] theorem State.setMode_y (s : State) (m : CpuMode) : (s.setMode m).y = s.y := rfl
@[simp] theorem State.setMode_sp (s : State) (m : CpuMode) : (s.setMode m).sp = s.sp := rfl
@[simp] theorem State.setMode_spHeld (s : State) (m : CpuMode) : (s.setMode m).spHeld = s.spHeld := rfl
@[simp] theorem State.setMode_p (s : State) (m : CpuMode) : (s.setMode m).p = s.p := rfl
@[simp] theorem State.setMode_pc (s : State) (m : CpuMode) : (s.setMode m).pc = s.pc := rfl
@[simp] theorem State.setMode_cycleClock (s : State) (m : CpuMode) : (s.setMode m).cycleClock = s.cycleClock := rfl
@[simp] theorem State.setMode_currentInstruction (s : State) (m : CpuMode) : (s.setMode m).currentInstruction = s.currentInstruction := rfl
@[simp] theorem State.setMode_irqLine (s : State) (m : CpuMode) : (s.setMode m).irqLine = s.irqLine := rfl
@[simp] theorem State.setMode_runState (s : State) (m : CpuMode) : (s.setMode m).runState = s.runState := rfl
@[simp] theorem State.setMode_stepRequest (s : State) (m : CpuMode) : (s.setMode m).stepRequest = s.stepRequest := rfl
@[simp] theorem State.setMode_cpuMode (s : State) (m : CpuMode) : (s.setMode m).cpuMode = m := rfl
@[simp] theorem State.setMode_mem (s : State) (m : CpuMode) : (s.setMode m).mem = s.mem := rfl
@[simp] theorem State.setMode_disk (s : State) (m : CpuMode) : (s.setMode m).disk = s.disk := rfl
@[simp] theorem State.setMode_timer (s : State) (m : CpuMode) : (s.setMode m).timer = s.timer := rfl
@[simp] theorem State.setMode_logLevel (s : State) (m : CpuMode) : (s.setMode m).logLevel = s.logLevel := rfl
@[simp] theorem State.setMode_commands (s : State) (m : CpuMode) : (s.setMode m).commands = s.commands := rfl
@[simp] theorem State.setMode_events (s : State) (m : CpuMode) : (s.setMode m).events = s.events := rfl
@[simp] theorem State.setMode_receiver (s : State) (m : CpuMode) : (s.setMode m).receiver = s.receiver := rfl
@[simp] theorem State.setMode_delivered (s : State) (m : CpuMode) : (s.setMode m).delivered = s.delivered := rfl
@[simp] theorem State.setMode_drawCount (s : State) (m : CpuMode) : (s.setMode m).drawCount = s.drawCount := rfl

@[simp] theorem State.clearRequest_cfg (s : State) : (s.clearRequest).cfg = s.cfg := rfl
@[simp] theorem State.clearRequest_a (s : State) : (s.clearRequest).a = s.a := rfl
@[simp] theorem State.clearRequest_x (s : State) : (s.clearRequest).x = s.x := rfl
@[simp] theorem State.clearRequest_y (s : State) : (s.clearRequest).y = s.y := rfl
@[simp] theorem State.clearRequest_sp (s : State) : (s.clearRequest).sp = s.sp := rfl
@[simp] theorem State.clearRequest_spHeld (s : State) : (s.clearRequest).spHeld = s.spHeld := rfl
@[simp] theorem State.clearRequest_p (s : State) : (s.clearRequest).p = s.p := rfl
@[simp] theorem State.clearRequest_pc (s : State) : (s.clearRequest).pc = s.pc := rfl
@[simp] theorem State.clearRequest_cycleClock (s : State) : (s.clearRequest).cycleClock = s.cycleClock := rfl
@[simp] theorem State.clearRequest_currentInstruction (s : State) : (s.clearRequest).currentInstruction = s.currentInstruction := rfl
@[simp] theorem State.clearRequest_irqLine (s : State) : (s.clearRequest).irqLine = s.irqLine := rfl
@[simp] theorem State.clearRequest_runState (s : State) : (s.clearRequest).runState = s.runState := rfl
@[simp] theorem State.clearRequest_stepRequest (s : State) : (s.clearRequest).stepRequest = .idle := rfl
@[simp] theorem State.clearRequest_cpuMode (s : State) : (s.clearRequest).cpuMode = s.cpuMode := rfl
@[simp] theorem State.clearRequest_mem (s : State) : (s.clearRequest).mem = s.mem := rfl
@[simp] theorem State.clearRequest_disk (s : State) : (s.clearRequest).disk = s.disk := rfl
@[simp] theorem State.clearRequest_timer (s : State) : (s.clearRequest).timer = s.timer := rfl
@[simp] theorem State.clearRequest_logLevel (s : State) : (s.clearRequest).logLevel = s.logLevel := rfl
@[simp] theorem State.clearRequest_commands (s : State) : (s.clearRequest).commands = s.commands := rfl
@[simp] theorem State.clearRequest_events (s : State) : (s.clearRequest).events = s.events := rfl
@[simp] theorem State.clearRequest_receiver (s : State) : (s.clearRequest).receiver = s.receiver := rfl
@[simp] theorem State.clearRequest_delivered (s : State) : (s.clearRequest).delivered = s.delivered := rfl
@[simp] theorem State.clearRequest_drawCount (s : State) : (s.clearRequest).drawCount = s.drawCount := rfl

@[simp] theorem State.takeCommands_cfg (s : State) : (s.takeCommands).cfg = s.cfg := rfl
@[simp] theorem State.takeCommands_a (s : State) : (s.takeCommands).a = s.a := rfl
@[simp] theorem State.takeCommands_x (s : State) : (s.takeCommands).x = s.x := rfl
@[simp] theorem State.takeCommands_y (s : State) : (s.takeCommands).y = s.y := rfl
@[simp] theorem State.takeCommands_sp (s : State) : (s.takeCommands).sp = s.sp := rfl
@[simp] theorem State.takeCommands_spHeld (s : State) : (s.takeCommands).spHeld = s.spHeld := rfl
@[simp] theorem State.takeCommands_p (s : State) : (s.takeCommands).p = s.p := rfl
@[simp] theorem State.takeCommands_pc (s : State) : (s.takeCommands).pc = s.pc := rfl
@[simp] theorem State.takeCommands_cycleClock (s : State) : (s.takeCommands).cycleClock = s.cycleClock := rfl
@[simp] theorem State.takeCommands_currentInstruction (s : State) : (s.takeCommands).currentInstruction = s.currentInstruction := rfl
@[simp] theorem State.takeCommands_irqLine (s : State) : (s.takeCommands).irqLine = s.irqLine := rfl
@[simp] theorem State.takeCommands_runState (s : State) : (s.takeCommands).runState = s.runState := rfl
@[simp] theorem State.takeCommands_stepRequest (s : State) : (s.takeCommands).stepRequest = s.stepRequest := rfl
@[simp] theorem State.takeCommands_cpuMode (s : State) : (s.takeCommands).cpuMode = s.cpuMode := rfl
@[simp] theorem State.takeCommands_mem (s : State) : (s.takeCommands).mem = s.mem := rfl
@[simp] theorem State.takeCommands_disk (s : State) : (s.takeCommands).disk = s.disk := rfl
@[simp] theorem State.takeCommands_timer (s : State) : (s.takeCommands).timer = s.timer := rfl
@[simp] theorem State.takeCommands_logLevel (s : State) : (s.takeCommands).logLevel = s.logLevel := rfl
@[simp] theorem State.takeCommands_commands (s : State) : (s.takeCommands).commands = s.commands.tail := rfl
@[simp] theorem State.takeCommands_events (s : State) : (s.takeCommands).events = s.events := rfl
@[simp] theorem State.takeCommands_receiver (s : State) : (s.takeCommands).receiver = s.receiver := rfl
@[simp] theorem State.takeCommands_delivered (s : State) : (s.takeCommands).delivered = s.delivered := rfl
@[simp] theorem State.takeCommands_drawCount (s : State) : (s.takeCommands).drawCount = s.drawCount := rfl

@[simp] theorem State.reg_a (s : State) : s.reg .a = s.a := rfl
@[simp] theorem State.reg_x (s : State) : s.reg .x = s.x := rfl
@[simp] theorem State.reg_y (s : State) : s.reg .y = s.y := rfl

theorem State.withBus_self (s : State) : s.withBus s = s := rfl

@[simp] theorem State.withBus_withBus (s t u : State) : (s.withBus t).withBus u = s.withBus u := rfl

@[simp] theorem State.flag_withBus (s t : State) (f : Flag) : (s.withBus t).flag f = s.flag f := rfl

@[simp] theorem State.reg_withBus (s t : State) (r : Reg) : (s.withBus t).reg r = s.reg r := by cases r <;> rfl

end Sys2Proof.Machine
end

