-- ==== Sys2Proof/Laws/Bus.lean ====
section
/-! SUPPORT. Everything one bus access can do: a relation for a read, one for any access, and their laws. -/

namespace Sys2Proof.Machine

@[simp] theorem Receiver.arrivals_nil (r : Receiver) (n : Nat) : r.arrivals n [] = [] := rfl

theorem Receiver.arrivals_append (r : Receiver) (n : Nat) (es fs : List EngineEvent) :
    r.arrivals n (es ++ fs) = r.arrivals n es ++ r.arrivals (n + es.length) fs := by
  induction es generalizing n with
  | nil => rfl
  | cons e es ih =>
    simp only [List.cons_append, Receiver.arrivals, ih, List.length_cons, Nat.add_right_comm n 1, Nat.add_assoc]
    split <;> rfl

/-- What arrives is what was emitted, in order, with none added. -/
theorem Receiver.arrivals_sublist (r : Receiver) (n : Nat) (es : List EngineEvent) : (r.arrivals n es).Sublist es := by
  induction es generalizing n with
  | nil => exact .slnil
  | cons e es ih =>
    simp only [Receiver.arrivals]
    split
    · exact (ih _).cons_cons e
    · exact (ih _).cons e

@[simp] theorem Receiver.arrivals_kept (n : Nat) (es : List EngineEvent) : Receiver.kept.arrivals n es = es := by
  induction es generalizing n with
  | nil => rfl
  | cons e es ih => simp [Receiver.arrivals, Receiver.gets, ih]

@[simp] theorem Receiver.arrivals_gone (n : Nat) (es : List EngineEvent) : Receiver.gone.arrivals n es = [] := by
  induction es generalizing n with
  | nil => rfl
  | cons e es ih => simp [Receiver.arrivals, Receiver.gets, ih]

/-- The events `es` were emitted between `s` and `t`: they follow those before, and what arrives of them follows what had arrived. -/
structure Emitted (es : List EngineEvent) (s t : State) : Prop where
  receiver  : t.receiver = s.receiver
  events    : t.events = s.events ++ es
  delivered : t.delivered = s.delivered ++ s.receiver.arrivals s.events.length es

theorem Emitted.none {s t : State} (receiver : t.receiver = s.receiver) (events : t.events = s.events)
    (delivered : t.delivered = s.delivered) : Emitted [] s t := ⟨receiver, by simp [events], by simp [delivered]⟩

theorem Emitted.trans {es fs : List EngineEvent} {s t u : State} (h : Emitted es s t) (k : Emitted fs t u) : Emitted (es ++ fs) s u :=
  ⟨k.receiver.trans h.receiver, by rw [k.events, h.events, List.append_assoc], by
    rw [k.delivered, h.delivered, h.receiver, h.events, Receiver.arrivals_append, List.length_append, List.append_assoc]⟩

/-- Every emitted event is kept in order, and what is delivered stays a part of what was emitted. -/
theorem Emitted.sublist {es : List EngineEvent} {s t : State} (h : Emitted es s t) (k : s.delivered.Sublist s.events) :
    t.delivered.Sublist t.events := by
  rw [h.events, h.delivered]; exact k.append (Receiver.arrivals_sublist _ _ _)

theorem State.emitAll_emitted (s : State) (es : List EngineEvent) : Emitted es s (s.emitAll es) := ⟨rfl, rfl, rfl⟩

/-- What any sequence of bus accesses and register updates keeps: the configuration, the canonical form of storage, the device
invariants, the length of the disk store, and the events emitted before, to which it adds output bytes only. -/
structure BusEffect (s t : State) : Prop where
  cfg         : t.cfg = s.cfg
  memWf       : s.mem.wf → t.mem.wf
  storeLength : t.disk.store.length = s.disk.store.length
  offset      : s.disk.offset ≤ 512 → t.disk.offset ≤ 512
  active      : s.cfg.diskClear = .after512th → s.disk.offset ≤ 512 →
                (s.disk.command ≠ .none → s.disk.offset < 512) → t.disk.command ≠ .none → t.disk.offset < 512
  ifr         : s.timer.ifr &&& 0x9F = 0 → t.timer.ifr &&& 0x9F = 0
  ier         : s.timer.ier &&& 0x9F = 0 → t.timer.ier &&& 0x9F = 0
  outputs     : ∃ out : List Byte, Emitted (out.map .outputByte) s t

theorem BusEffect.refl (s : State) : BusEffect s s := by
  constructor <;> first | rfl | exact fun h => h | exact fun _ _ h => h | exact ⟨[], .none rfl rfl rfl⟩

theorem BusEffect.trans {s t u : State} (h : BusEffect s t) (k : BusEffect t u) : BusEffect s u := by
  have hc : t.cfg = s.cfg := h.cfg
  refine ⟨k.cfg.trans hc, fun w => k.memWf (h.memWf w), k.storeLength.trans h.storeLength, fun w => k.offset (h.offset w),
    fun c o w => k.active (hc ▸ c) (h.offset o) (h.active c o w), fun w => k.ifr (h.ifr w), fun w => k.ier (h.ier w), ?_⟩
  obtain ⟨x, hx⟩ := h.outputs
  obtain ⟨y, hy⟩ := k.outputs
  exact ⟨x ++ y, by rw [List.map_append]; exact hx.trans hy⟩

/-- What any sequence of bus reads and register updates can do: a bus effect that emits nothing, leaves the disk store, and changes no byte of storage
but the serial ready flag, which a read of the serial input clears. -/
structure ReadEffect (s t : State) : Prop where
  effect : BusEffect s t
  events : t.events = s.events
  store  : t.disk.store = s.disk.store
  mem    : t.mem = s.mem ∨ t.mem = s.mem.set s.cfg.serialReady.toNat 0x00

theorem Memory.set_zero_idem (m : Memory) (a : Nat) : Memory.set (Memory.set m a 0x00) a 0x00 = Memory.set m a 0x00 := by
  simp [Memory.set, List.filter_filter]

theorem ReadEffect.refl (s : State) : ReadEffect s s := ⟨.refl s, rfl, rfl, .inl rfl⟩

theorem ReadEffect.trans {s t u : State} (h : ReadEffect s t) (k : ReadEffect t u) : ReadEffect s u := by
  have hc : t.cfg = s.cfg := h.effect.cfg
  refine ⟨h.effect.trans k.effect, k.events.trans h.events, k.store.trans h.store, ?_⟩
  have km := k.mem
  rw [hc] at km
  rcases h.mem with e | e <;> rw [e] at km
  · exact km
  · rw [Memory.set_zero_idem, or_self] at km; exact .inr km

theorem ReadEffect.delivered {s t : State} (h : ReadEffect s t) : t.delivered = s.delivered := by
  obtain ⟨out, k⟩ := h.effect.outputs
  have e := k.events.symm
  rw [h.events, List.append_right_eq_self] at e
  rw [k.delivered, e]; simp

/-- A byte of storage after reads: as before, or the ready flag cleared. -/
theorem ReadEffect.byteAt {s t : State} (h : ReadEffect s t) (a : Addr) :
    t.byteAt a = s.byteAt a ∨ (a = s.cfg.serialReady ∧ t.byteAt a = 0x00) := by
  simp only [State.byteAt]
  rcases h.mem with e | e
  · exact .inl (by rw [e])
  · rw [e, Memory.get_set]
    by_cases ha : s.cfg.serialReady.toNat = a.toNat
    · exact .inr ⟨(BitVec.eq_of_toNat_eq ha).symm, by simp [ha]⟩
    · exact .inl (by simp [ha])

theorem and_9F_of_clear {x m : Byte} (h : x &&& 0x9F = 0) : (x &&& m) &&& 0x9F = 0 := by
  rw [BitVec.and_assoc, BitVec.and_comm m, ← BitVec.and_assoc, h]; simp

theorem and_9F_of_set {x v m : Byte} (h : x &&& 0x9F = 0) (hm : m &&& 0x9F = 0) : (x ||| (v &&& m)) &&& 0x9F = 0 := by
  have e : ∀ i, ((x ||| (v &&& m)).getLsbD i && (0x9F : Byte).getLsbD i) =
      ((x &&& 0x9F).getLsbD i || (v.getLsbD i && (m &&& 0x9F).getLsbD i)) := by
    intro i; simp only [BitVec.getLsbD_or, BitVec.getLsbD_and]
    cases x.getLsbD i <;> cases v.getLsbD i <;> cases m.getLsbD i <;> cases (0x9F : Byte).getLsbD i <;> rfl
  apply BitVec.eq_of_getLsbD_eq
  intro i _
  rw [BitVec.getLsbD_and, e, h, hm]; simp

theorem State.drawn_readEffect (s : State) : ReadEffect s s.drawn := by
  refine ⟨⟨rfl, ?_, rfl, ?_, ?_, ?_, ?_, [], .none rfl rfl rfl⟩, rfl, rfl, .inl rfl⟩ <;> first | exact fun h => h | exact fun _ _ h => h

theorem drawByte_readEffect {s t : State} {v : Byte} (h : drawByte s = .ok v t) : ReadEffect s t := by
  simp only [drawByte, Res.ok.injEq] at h
  rw [← h.2]; exact s.drawn_readEffect

/-- A change of the disk's command and offset that keeps the disk invariants is a read effect. -/
theorem ReadEffect.ofDisk {s : State} {d : Disk} (store : d.store = s.disk.store)
    (offset : s.disk.offset ≤ 512 → d.offset ≤ 512)
    (active : s.cfg.diskClear = .after512th → s.disk.offset ≤ 512 →
      (s.disk.command ≠ .none → s.disk.offset < 512) → d.command ≠ .none → d.offset < 512) :
    ReadEffect s { s with disk := d } :=
  ⟨⟨rfl, fun h => h, by simp [store], offset, active, fun h => h, fun h => h, [], .none rfl rfl rfl⟩, rfl, store, .inl rfl⟩

theorem diskRead_readEffect {n : Nat} {s t : State} {v : Byte} (h : diskRead n s = .ok v t) : ReadEffect s t := by
  simp only [diskRead] at h
  split at h
  · simp only [Res.ok.injEq] at h; rw [← h.2]; exact .refl s
  split at h
  · simp only [diskReadData] at h
    split at h
    · exact drawByte_readEffect h
    split at h
    · exact ReadEffect.trans (.ofDisk (d := { s.disk with command := .none }) rfl (fun h => h) (fun _ _ _ h => absurd rfl h))
        (drawByte_readEffect h)
    split at h
    · simp at h
    · rename_i hc ho _ _ _
      simp only [Res.ok.injEq] at h
      rw [← h.2]
      refine .ofDisk rfl (fun w => ?_) (fun c w a k => ?_)
      · simp only [Disk.advance]; omega
      · simp only [Disk.advance, c, and_true] at k ⊢
        split at k
        · exact absurd rfl k
        · omega
  · simp only [Res.ok.injEq] at h; rw [← h.2]; exact .refl s
  · exact drawByte_readEffect h

theorem timerRead_readEffect {n : Nat} {s t : State} {v : Byte} (h : timerRead n s = .ok v t) : ReadEffect s t := by
  unfold timerRead at h
  split at h
  case h_9 =>
    simp only [Res.ok.injEq] at h
    rw [← h.2]
    refine ⟨⟨rfl, fun h => h, rfl, fun h => h, fun _ _ h => h, fun _ => ?_, fun h => h, [], .none rfl rfl rfl⟩, rfl, rfl, .inl rfl⟩
    simp [Timer.clearFlags]
  case h_11 => exact drawByte_readEffect h
  all_goals (simp only [Res.ok.injEq] at h; rw [← h.2]; exact .refl s)

theorem State.storeByte_busEffect (s : State) (a : Addr) (v : Byte) : BusEffect s (s.storeByte a v) :=
  ⟨rfl, fun h => Memory.wf_set h a.isLt v, rfl, fun h => h, fun _ _ h => h, fun h => h, fun h => h, [], .none rfl rfl rfl⟩

/-- Everything a bus read can do. -/
theorem busRead_readEffect {a : Addr} {s t : State} {v : Byte} (h : busRead a s = .ok v t) : ReadEffect s t := by
  simp only [busRead] at h
  split at h
  · exact diskRead_readEffect h
  split at h
  · simp only [serialReadIn, Res.ok.injEq] at h
    rw [← h.2]
    exact ⟨s.storeByte_busEffect _ _, rfl, rfl, .inr rfl⟩
  split at h
  · simp only [Res.ok.injEq] at h; rw [← h.2]; exact .refl s
  split at h
  · exact timerRead_readEffect h
  split at h <;> (simp only [Res.ok.injEq] at h; rw [← h.2]; exact .refl s)

theorem busRead16_readEffect {a w : Addr} {s t : State} (h : busRead16 a s = .ok w t) : ReadEffect s t := by
  obtain ⟨lo, s1, h1, h⟩ := Res.bind_eq_ok.1 h
  obtain ⟨hi, s2, h2, h⟩ := Res.bind_eq_ok.1 h
  simp only [Res.ok.injEq] at h
  rw [← h.2]
  exact (busRead_readEffect h1).trans (busRead_readEffect h2)

theorem busRead16zp_readEffect {p : Byte} {w : Addr} {s t : State} (h : busRead16zp p s = .ok w t) : ReadEffect s t := by
  obtain ⟨lo, s1, h1, h⟩ := Res.bind_eq_ok.1 h
  obtain ⟨hi, s2, h2, h⟩ := Res.bind_eq_ok.1 h
  simp only [Res.ok.injEq] at h
  rw [← h.2]
  exact (busRead_readEffect h1).trans (busRead_readEffect h2)

theorem Timer.write_ifr {t : Timer} (n : Nat) (v : Byte) (h : t.ifr &&& 0x9F = 0) : (t.write n v).ifr &&& 0x9F = 0 := by
  unfold Timer.write
  split <;> first
    | exact h
    | exact and_9F_of_clear h
    | simp [Timer.clearFlags]

theorem Timer.write_ier {t : Timer} (n : Nat) (v : Byte) (h : t.ier &&& 0x9F = 0) : (t.write n v).ier &&& 0x9F = 0 := by
  unfold Timer.write
  split <;> try exact h
  simp only [Timer.writeIer]
  split
  · exact and_9F_of_set h (by decide)
  · exact and_9F_of_clear h

theorem diskWrite_busEffect {n : Nat} {v : Byte} {s t : State} (h : diskWrite n v s = .ok () t) :
    BusEffect s t ∧ t.mem = s.mem := by
  simp only [diskWrite] at h
  split at h
  · simp only [Res.ok.injEq, true_and] at h; rw [← h]; exact ⟨.refl s, rfl⟩
  split at h
  · simp only [diskWriteData] at h
    split at h
    · simp only [Res.ok.injEq, true_and] at h; rw [← h]; exact ⟨.refl s, rfl⟩
    split at h
    · simp only [Res.ok.injEq, true_and] at h; rw [← h]
      exact ⟨⟨rfl, fun h => h, rfl, fun h => h, fun _ _ _ h => absurd rfl h, fun h => h, fun h => h, [], .none rfl rfl rfl⟩, rfl⟩
    split at h
    · simp only [Res.ok.injEq, true_and] at h; rw [← h]
      refine ⟨⟨rfl, fun h => h, by simp, fun w => ?_, fun c w a k => ?_, fun h => h, fun h => h, [], .none rfl rfl rfl⟩, rfl⟩
      · simp only [Disk.advance]; omega
      · simp only [Disk.advance, c, and_true] at k ⊢
        split at k
        · exact absurd rfl k
        · omega
    · simp at h
  case h_6 =>
    simp only [Res.ok.injEq, true_and] at h; rw [← h]
    exact ⟨⟨rfl, fun h => h, rfl, fun _ => by simp, fun _ _ _ _ => by simp, fun h => h, fun h => h, [], .none rfl rfl rfl⟩, rfl⟩
  all_goals
    simp only [Res.ok.injEq, true_and] at h; rw [← h]
    exact ⟨⟨rfl, fun h => h, rfl, fun h => h, fun _ _ h => h, fun h => h, fun h => h, [], .none rfl rfl rfl⟩, rfl⟩

/-- Everything a bus write can do: a bus effect that changes no byte of storage but the one written. -/
theorem busWrite_busEffect {a : Addr} {v : Byte} {s t : State} (h : busWrite a v s = .ok () t) :
    BusEffect s t ∧ ∀ b, b ≠ a → t.byteAt b = s.byteAt b := by
  have keep : ∀ b, b ≠ a → (s.storeByte a v).byteAt b = s.byteAt b := by
    intro b hb
    have : a.toNat ≠ b.toNat := fun e => hb (BitVec.eq_of_toNat_eq e).symm
    simp [State.byteAt, Memory.get_set, this]
  simp only [busWrite] at h
  split at h
  · obtain ⟨e, m⟩ := diskWrite_busEffect h
    exact ⟨e, fun b _ => by simp [State.byteAt, m]⟩
  split at h
  · simp only [Res.ok.injEq, true_and] at h; rw [← h]
    refine ⟨(s.storeByte_busEffect a v).trans ?_, keep⟩
    exact ⟨rfl, fun h => h, rfl, fun h => h, fun _ _ h => h, fun h => h, fun h => h, [v], (s.storeByte a v).emitAll_emitted [.outputByte v]⟩
  split at h
  · simp only [Res.ok.injEq, true_and] at h; rw [← h]; exact ⟨s.storeByte_busEffect a v, keep⟩
  split at h
  · simp only [Res.ok.injEq, true_and] at h; rw [← h]
    exact ⟨⟨rfl, fun h => h, rfl, fun h => h, fun _ _ h => h, Timer.write_ifr _ _, Timer.write_ier _ _, [], .none rfl rfl rfl⟩, fun _ _ => rfl⟩
  split at h
  · simp only [Res.ok.injEq, true_and] at h; rw [← h]; exact ⟨.refl s, fun _ _ => rfl⟩
  · simp only [Res.ok.injEq, true_and] at h; rw [← h]; exact ⟨s.storeByte_busEffect a v, keep⟩

theorem diskRead_only {n : Nat} {s t : State} {v : Byte} (h : diskRead n s = .ok v t) : t = s.withBus t := by
  unfold diskRead diskReadData drawByte at h
  split at h
  · cases h; rfl
  split at h
  · split at h
    · cases h; rfl
    split at h
    · cases h; rfl
    split at h <;> cases h
    rfl
  · cases h; rfl
  · cases h; rfl

theorem timerRead_only {n : Nat} {s t : State} {v : Byte} (h : timerRead n s = .ok v t) : t = s.withBus t := by
  unfold timerRead drawByte at h
  split at h <;> cases h <;> rfl

/-- A bus read changes no register. -/
theorem busRead_only {a : Addr} {s t : State} {v : Byte} (h : busRead a s = .ok v t) : t = s.withBus t := by
  unfold busRead serialReadIn at h
  split at h
  · exact diskRead_only h
  split at h
  · cases h; rfl
  split at h
  · cases h; rfl
  split at h
  · exact timerRead_only h
  split at h <;> cases h <;> rfl

theorem busRead16_only {a w : Addr} {s t : State} (h : busRead16 a s = .ok w t) : t = s.withBus t := by
  obtain ⟨lo, s1, h1, h⟩ := Res.bind_eq_ok.1 h
  obtain ⟨hi, s2, h2, h⟩ := Res.bind_eq_ok.1 h
  cases h
  rw [busRead_only h2, busRead_only h1]; rfl

theorem busRead16zp_only {p : Byte} {w : Addr} {s t : State} (h : busRead16zp p s = .ok w t) : t = s.withBus t := by
  obtain ⟨lo, s1, h1, h⟩ := Res.bind_eq_ok.1 h
  obtain ⟨hi, s2, h2, h⟩ := Res.bind_eq_ok.1 h
  cases h
  rw [busRead_only h2, busRead_only h1]; rfl

theorem diskWrite_only {n : Nat} {v : Byte} {s t : State} (h : diskWrite n v s = .ok () t) : t = s.withBus t := by
  unfold diskWrite diskWriteData at h
  split at h
  · cases h; rfl
  split at h
  · split at h
    · cases h; rfl
    split at h
    · cases h; rfl
    split at h <;> cases h
    rfl
  all_goals cases h; rfl

/-- A bus write changes no register. -/
theorem busWrite_only {a : Addr} {v : Byte} {s t : State} (h : busWrite a v s = .ok () t) : t = s.withBus t := by
  unfold busWrite at h
  split at h
  · exact diskWrite_only h
  split at h
  · cases h; rfl
  split at h
  · cases h; rfl
  split at h
  · cases h; rfl
  split at h <;> cases h <;> rfl

/-- A read of a plain address returns its storage byte and changes nothing. -/
theorem busRead_plain {a : Addr} {s : State} (h : isPlain s.cfg a = true) : busRead a s = .ok (s.byteAt a) s := by
  simp only [isPlain, Bool.and_eq_true, Bool.not_eq_true', bne_iff_ne, ne_eq] at h
  obtain ⟨⟨⟨⟨⟨h1, h2⟩, h3⟩, h4⟩, h5⟩, h6⟩ := h
  simp [busRead, h1, h2, h3, h4, h5, h6]

/-- A write of a plain address stores the byte and does nothing else. -/
theorem busWrite_plain {a : Addr} {v : Byte} {s : State} (h : isPlain s.cfg a = true) :
    busWrite a v s = .ok () (s.storeByte a v) := by
  simp only [isPlain, Bool.and_eq_true, Bool.not_eq_true', bne_iff_ne, ne_eq] at h
  obtain ⟨⟨⟨⟨⟨h1, h2⟩, h3⟩, h4⟩, h5⟩, h6⟩ := h
  simp [busWrite, h1, h2, h3, h4, h5, h6]

end Sys2Proof.Machine
end

