-- ==== Sys2Proof/Laws/Engine.lean ====
section
/-! SUPPORT. The updates of the engine: what the tick, logging and the host's sending leave in each field, and everything the end
of a step can do (spec 60_exceptions.md R212, R262, R265). -/

namespace Sys2Proof.Machine

@[simp] theorem State.tickAll_cfg (s : State) : s.tickAll.cfg = s.cfg := rfl
@[simp] theorem State.tickAll_a (s : State) : s.tickAll.a = s.a := rfl
@[simp] theorem State.tickAll_x (s : State) : s.tickAll.x = s.x := rfl
@[simp] theorem State.tickAll_y (s : State) : s.tickAll.y = s.y := rfl
@[simp] theorem State.tickAll_sp (s : State) : s.tickAll.sp = s.sp := rfl
@[simp] theorem State.tickAll_spHeld (s : State) : s.tickAll.spHeld = s.spHeld := rfl
@[simp] theorem State.tickAll_p (s : State) : s.tickAll.p = s.p := rfl
@[simp] theorem State.tickAll_pc (s : State) : s.tickAll.pc = s.pc := rfl
@[simp] theorem State.tickAll_cycleClock (s : State) : s.tickAll.cycleClock = s.cycleClock := rfl
@[simp] theorem State.tickAll_currentInstruction (s : State) : s.tickAll.currentInstruction = s.currentInstruction := rfl
@[simp] theorem State.tickAll_runState (s : State) : s.tickAll.runState = s.runState := rfl
@[simp] theorem State.tickAll_stepRequest (s : State) : s.tickAll.stepRequest = s.stepRequest := rfl
@[simp] theorem State.tickAll_cpuMode (s : State) : s.tickAll.cpuMode = s.cpuMode := rfl
@[simp] theorem State.tickAll_mem (s : State) : s.tickAll.mem = s.mem := rfl
@[simp] theorem State.tickAll_disk (s : State) : s.tickAll.disk = s.disk := rfl
@[simp] theorem State.tickAll_logLevel (s : State) : s.tickAll.logLevel = s.logLevel := rfl
@[simp] theorem State.tickAll_commands (s : State) : s.tickAll.commands = s.commands := rfl
@[simp] theorem State.tickAll_events (s : State) : s.tickAll.events = s.events := rfl
@[simp] theorem State.tickAll_receiver (s : State) : s.tickAll.receiver = s.receiver := rfl
@[simp] theorem State.tickAll_delivered (s : State) : s.tickAll.delivered = s.delivered := rfl
@[simp] theorem State.tickAll_drawCount (s : State) : s.tickAll.drawCount = s.drawCount := rfl

@[simp] theorem State.send_cfg (k : Nat) (c : HostCommand) (s : State) : (s.send k c).cfg = s.cfg := rfl
@[simp] theorem State.send_a (k : Nat) (c : HostCommand) (s : State) : (s.send k c).a = s.a := rfl
@[simp] theorem State.send_x (k : Nat) (c : HostCommand) (s : State) : (s.send k c).x = s.x := rfl
@[simp] theorem State.send_y (k : Nat) (c : HostCommand) (s : State) : (s.send k c).y = s.y := rfl
@[simp] theorem State.send_sp (k : Nat) (c : HostCommand) (s : State) : (s.send k c).sp = s.sp := rfl
@[simp] theorem State.send_spHeld (k : Nat) (c : HostCommand) (s : State) : (s.send k c).spHeld = s.spHeld := rfl
@[simp] theorem State.send_p (k : Nat) (c : HostCommand) (s : State) : (s.send k c).p = s.p := rfl
@[simp] theorem State.send_pc (k : Nat) (c : HostCommand) (s : State) : (s.send k c).pc = s.pc := rfl
@[simp] theorem State.send_cycleClock (k : Nat) (c : HostCommand) (s : State) : (s.send k c).cycleClock = s.cycleClock := rfl
@[simp] theorem State.send_currentInstruction (k : Nat) (c : HostCommand) (s : State) : (s.send k c).currentInstruction = s.currentInstruction := rfl
@[simp] theorem State.send_irqLine (k : Nat) (c : HostCommand) (s : State) : (s.send k c).irqLine = s.irqLine := rfl
@[simp] theorem State.send_runState (k : Nat) (c : HostCommand) (s : State) : (s.send k c).runState = s.runState := rfl
@[simp] theorem State.send_stepRequest (k : Nat) (c : HostCommand) (s : State) : (s.send k c).stepRequest = s.stepRequest := rfl
@[simp] theorem State.send_cpuMode (k : Nat) (c : HostCommand) (s : State) : (s.send k c).cpuMode = s.cpuMode := rfl
@[simp] theorem State.send_mem (k : Nat) (c : HostCommand) (s : State) : (s.send k c).mem = s.mem := rfl
@[simp] theorem State.send_disk (k : Nat) (c : HostCommand) (s : State) : (s.send k c).disk = s.disk := rfl
@[simp] theorem State.send_timer (k : Nat) (c : HostCommand) (s : State) : (s.send k c).timer = s.timer := rfl
@[simp] theorem State.send_logLevel (k : Nat) (c : HostCommand) (s : State) : (s.send k c).logLevel = s.logLevel := rfl
@[simp] theorem State.send_commands (k : Nat) (c : HostCommand) (s : State) : (s.send k c).commands = sendAt c k s.commands := rfl
@[simp] theorem State.send_events (k : Nat) (c : HostCommand) (s : State) : (s.send k c).events = s.events := rfl
@[simp] theorem State.send_receiver (k : Nat) (c : HostCommand) (s : State) : (s.send k c).receiver = s.receiver := rfl
@[simp] theorem State.send_delivered (k : Nat) (c : HostCommand) (s : State) : (s.send k c).delivered = s.delivered := rfl
@[simp] theorem State.send_drawCount (k : Nat) (c : HostCommand) (s : State) : (s.send k c).drawCount = s.drawCount := rfl

theorem State.logAndStall_silent {s : State} (h : s.logLevel = 0) : s.logAndStall = s := by simp [State.logAndStall, h]

/-- Everything logging can do above level 0: emit any lines, and pause with one line more or not. -/
theorem State.logAndStall_logging {s : State} (h : s.logLevel ≠ 0) :
    ∃ (lines : List String) (text : String),
      s.logAndStall = { s.emitAll (lines.map .logLine) with drawCount := s.drawCount + 1 } ∨
      s.logAndStall = { s.emitAll (lines.map .logLine ++ [.logLine text]) with runState := .paused, drawCount := s.drawCount + 1 } := by
  refine ⟨Config.freeLines s.drawCount, Config.freeText s.drawCount, ?_⟩
  simp only [State.logAndStall, h, if_false]
  split <;> simp

@[simp] theorem State.logAndStall_cfg (s : State) : s.logAndStall.cfg = s.cfg := by simp only [State.logAndStall]; split <;> [rfl; (split <;> rfl)]
@[simp] theorem State.logAndStall_a (s : State) : s.logAndStall.a = s.a := by simp only [State.logAndStall]; split <;> [rfl; (split <;> rfl)]
@[simp] theorem State.logAndStall_x (s : State) : s.logAndStall.x = s.x := by simp only [State.logAndStall]; split <;> [rfl; (split <;> rfl)]
@[simp] theorem State.logAndStall_y (s : State) : s.logAndStall.y = s.y := by simp only [State.logAndStall]; split <;> [rfl; (split <;> rfl)]
@[simp] theorem State.logAndStall_sp (s : State) : s.logAndStall.sp = s.sp := by simp only [State.logAndStall]; split <;> [rfl; (split <;> rfl)]
@[simp] theorem State.logAndStall_spHeld (s : State) : s.logAndStall.spHeld = s.spHeld := by simp only [State.logAndStall]; split <;> [rfl; (split <;> rfl)]
@[simp] theorem State.logAndStall_p (s : State) : s.logAndStall.p = s.p := by simp only [State.logAndStall]; split <;> [rfl; (split <;> rfl)]
@[simp] theorem State.logAndStall_pc (s : State) : s.logAndStall.pc = s.pc := by simp only [State.logAndStall]; split <;> [rfl; (split <;> rfl)]
@[simp] theorem State.logAndStall_cycleClock (s : State) : s.logAndStall.cycleClock = s.cycleClock := by simp only [State.logAndStall]; split <;> [rfl; (split <;> rfl)]
@[simp] theorem State.logAndStall_currentInstruction (s : State) : s.logAndStall.currentInstruction = s.currentInstruction := by simp only [State.logAndStall]; split <;> [rfl; (split <;> rfl)]
@[simp] theorem State.logAndStall_irqLine (s : State) : s.logAndStall.irqLine = s.irqLine := by simp only [State.logAndStall]; split <;> [rfl; (split <;> rfl)]
@[simp] theorem State.logAndStall_stepRequest (s : State) : s.logAndStall.stepRequest = s.stepRequest := by simp only [State.logAndStall]; split <;> [rfl; (split <;> rfl)]
@[simp] theorem State.logAndStall_cpuMode (s : State) : s.logAndStall.cpuMode = s.cpuMode := by simp only [State.logAndStall]; split <;> [rfl; (split <;> rfl)]
@[simp] theorem State.logAndStall_mem (s : State) : s.logAndStall.mem = s.mem := by simp only [State.logAndStall]; split <;> [rfl; (split <;> rfl)]
@[simp] theorem State.logAndStall_disk (s : State) : s.logAndStall.disk = s.disk := by simp only [State.logAndStall]; split <;> [rfl; (split <;> rfl)]
@[simp] theorem State.logAndStall_timer (s : State) : s.logAndStall.timer = s.timer := by simp only [State.logAndStall]; split <;> [rfl; (split <;> rfl)]
@[simp] theorem State.logAndStall_logLevel (s : State) : s.logAndStall.logLevel = s.logLevel := by simp only [State.logAndStall]; split <;> [rfl; (split <;> rfl)]
@[simp] theorem State.logAndStall_receiver (s : State) : s.logAndStall.receiver = s.receiver := by simp only [State.logAndStall]; split <;> [rfl; (split <;> rfl)]
@[simp] theorem State.logAndStall_commands (s : State) : s.logAndStall.commands = s.commands := by simp only [State.logAndStall]; split <;> [rfl; (split <;> rfl)]

@[simp] theorem sendAt_zero_headD (c : HostCommand) (q : List (List HostCommand)) : (sendAt c 0 q).headD [] = q.headD [] ++ [c] := by
  cases q <;> rfl

@[simp] theorem sendAt_zero_tail (c : HostCommand) (q : List (List HostCommand)) : (sendAt c 0 q).tail = q.tail := by
  cases q <;> rfl

@[simp] theorem sendAt_succ_headD (c : HostCommand) (k : Nat) (q : List (List HostCommand)) :
    (sendAt c (k + 1) q).headD [] = q.headD [] := by
  cases q <;> rfl

@[simp] theorem sendAt_succ_tail (c : HostCommand) (k : Nat) (q : List (List HostCommand)) :
    (sendAt c (k + 1) q).tail = sendAt c k q.tail := by
  cases q <;> rfl

end Sys2Proof.Machine
end

