-- ==== Sys2Proof/Laws/Flags.lean ====
section
/-! SUPPORT. Reading the flags of P after each flag computation. -/

namespace Sys2Proof.Machine

/-- A flag written reads as written; every other flag reads as before. -/
@[simp] theorem getFlag_putFlag (f g : Flag) (b : Bool) (p : Byte) :
    getFlag g (putFlag f b p) = if f = g then b else getFlag g p := by
  cases f <;> cases g <;> cases b <;> simp [getFlag, putFlag, Flag.mask, Flag.bit]

/-- Writing a flag leaves bits 4 and 5. -/
@[simp] theorem putFlag_bit4 (f : Flag) (b : Bool) (p : Byte) : (putFlag f b p)[4] = p[4] := by
  cases f <;> cases b <;> simp [putFlag, Flag.mask, Flag.bit]

@[simp] theorem putFlag_bit5 (f : Flag) (b : Bool) (p : Byte) : (putFlag f b p)[5] = p[5] := by
  cases f <;> cases b <;> simp [putFlag, Flag.mask, Flag.bit]

/-- Bits 4 and 5 of a byte under the mask 0x30. -/
theorem and30_eq (p q : Byte) : p &&& 0x30 = q &&& 0x30 ↔ p[4] = q[4] ∧ p[5] = q[5] := by
  constructor
  · intro h
    have h4 : (p &&& 0x30).getLsbD 4 = (q &&& 0x30).getLsbD 4 := by rw [h]
    have h5 : (p &&& 0x30).getLsbD 5 = (q &&& 0x30).getLsbD 5 := by rw [h]
    simp only [BitVec.getLsbD_and, show (0x30 : Byte).getLsbD 4 = true from rfl, show (0x30 : Byte).getLsbD 5 = true from rfl,
      Bool.and_true] at h4 h5
    exact ⟨h4, h5⟩
  · rintro ⟨h4, h5⟩
    apply BitVec.eq_of_getLsbD_eq
    intro i hi
    have : i = 0 ∨ i = 1 ∨ i = 2 ∨ i = 3 ∨ i = 4 ∨ i = 5 ∨ i = 6 ∨ i = 7 := by omega
    rcases this with rfl | rfl | rfl | rfl | rfl | rfl | rfl | rfl <;> simp [h4, h5]

@[simp] theorem putFlag_and30 (f : Flag) (b : Bool) (p : Byte) : putFlag f b p &&& 0x30#8 = p &&& 0x30#8 :=
  (and30_eq _ _).2 ⟨putFlag_bit4 f b p, putFlag_bit5 f b p⟩

@[simp] theorem getFlag_or30 (g : Flag) (p : Byte) : getFlag g (p ||| 0x30#8) = getFlag g p := by
  cases g <;> simp [getFlag, Flag.bit]

/-- The flag helper (R120). -/
@[simp] theorem getFlag_setNZ (g : Flag) (v p : Byte) :
    getFlag g (setNZ v p) =
      if g = .negative then v.getLsbD 7 else if g = .zero then v == 0x00 else getFlag g p := by
  cases g <;> simp [setNZ]

@[simp] theorem setNZ_and30 (v p : Byte) : setNZ v p &&& 0x30#8 = 0x30#8 := by
  have : setNZ v p &&& 0x30 = 0x30 &&& 0x30 := (and30_eq _ _).2 (by simp [setNZ])
  simpa using this

/-- A comparison writes N, Z and C only (R126). -/
@[simp] theorem getFlag_compareFlags (c : CmpFlags) (g : Flag) (r m p : Byte) (h : g ≠ .negative ∧ g ≠ .carry ∧ g ≠ .zero) :
    getFlag g (compareFlags c r m p) = getFlag g p := by
  simp [compareFlags, h.1.symm, h.2.1.symm, h.2.2.symm]

@[simp] theorem compareFlags_and30 (c : CmpFlags) (r m p : Byte) : compareFlags c r m p &&& 0x30#8 = p &&& 0x30#8 := by
  simp [compareFlags]

/-- BIT writes Z, N and V only (R143). -/
@[simp] theorem getFlag_bitFlags (c : Bool) (g : Flag) (a m p : Byte) (h : g ≠ .negative ∧ g ≠ .overflow ∧ g ≠ .zero) :
    getFlag g (bitFlags c a m p) = getFlag g p := by
  cases c <;> simp [bitFlags, h.1.symm, h.2.1.symm, h.2.2.symm]

@[simp] theorem bitFlags_and30 (c : Bool) (a m p : Byte) : bitFlags c a m p &&& 0x30#8 = p &&& 0x30#8 := by
  cases c <;> simp [bitFlags]

end Sys2Proof.Machine
end

