-- ==== Sys2Proof/Laws/HostSide.lean ====
section
/-! SUPPORT. No instruction, interrupt entry, command or device looks at what is the host's: the commands not yet applied, the
receiver, and the events. Each operation of a step, and the step of the engine, commutes with a replacement of them, to which it
adds the events it emits (spec 60_exceptions.md R255, R258, R260, R265; 93_implementation_defined.md U25). -/

namespace Sys2Proof.Machine

/-- What is the host's: the commands to come, the receiver, the events emitted and those delivered. -/
structure HostSide where
  commands  : List (List HostCommand)
  receiver  : Receiver
  events    : List EngineEvent
  delivered : List EngineEvent

/-- The host's side after events are emitted. -/
def HostSide.emitAll (o : HostSide) (es : List EngineEvent) : HostSide :=
  { o with events := o.events ++ es, delivered := o.delivered ++ o.receiver.arrivals o.events.length es }

/-- The host's side of a state. -/
def State.hostSide (s : State) : HostSide :=
  { commands := s.commands, receiver := s.receiver, events := s.events, delivered := s.delivered }

/-- The state with another host's side. -/
def State.withHost (o : HostSide) (s : State) : State :=
  { s with commands := o.commands, receiver := o.receiver, events := o.events, delivered := o.delivered }

theorem State.withHost_hostSide (s : State) : s.withHost s.hostSide = s := rfl

@[simp] theorem HostSide.emitAll_nil (o : HostSide) : o.emitAll [] = o := by simp [HostSide.emitAll]

theorem HostSide.emitAll_append (o : HostSide) (es fs : List EngineEvent) : o.emitAll (es ++ fs) = (o.emitAll es).emitAll fs := by
  simp [HostSide.emitAll, Receiver.arrivals_append]

/-- Change the state an operation leaves. -/
def Res.over {α : Type} (f : State → State) : Res α → Res α
  | .ok v s => .ok v (f s)
  | .fault e => .fault e

@[simp] theorem Res.over_ok {α : Type} (f : State → State) (v : α) (s : State) : (Res.ok v s).over f = .ok v (f s) := rfl

@[simp] theorem Res.over_fault {α : Type} (f : State → State) (e : Fault) : (Res.fault e : Res α).over f = .fault e := rfl

/-- The operation does at `s` what it does at every other host's side, to which it adds some events. -/
def BlindAt {α : Type} (op : State → Res α) (s : State) : Prop :=
  ∃ es, ∀ o, op (s.withHost o) = (op s).over (State.withHost (o.emitAll es))

/-- An operation that does not look at the host's side and does no more to it than emit events. -/
def Blind {α : Type} (op : State → Res α) : Prop := ∀ s, BlindAt op s

/-- An operation that emits nothing. -/
theorem BlindAt.silent {α : Type} {op : State → Res α} {s : State}
    (h : ∀ o, op (s.withHost o) = (op s).over (State.withHost o)) : BlindAt op s := ⟨[], fun o => by rw [h, HostSide.emitAll_nil]⟩

theorem Blind.silent {α : Type} {op : State → Res α} (h : ∀ o s, op (s.withHost o) = (op s).over (State.withHost o)) : Blind op :=
  fun s => .silent fun o => h o s

theorem Blind.bind {α β : Type} {op : State → Res α} {k : α → State → Res β} (h : Blind op) (hk : ∀ v, Blind (k v)) :
    Blind fun s => (op s).bind k := by
  intro s
  obtain ⟨es, h⟩ := h s
  unfold BlindAt
  simp only [h]
  cases op s with
  | ok v t =>
    obtain ⟨fs, k⟩ := hk v t
    exact ⟨es ++ fs, fun o => (k (o.emitAll es)).trans (by rw [HostSide.emitAll_append]; rfl)⟩
  | fault e => exact ⟨[], fun _ => rfl⟩

theorem Blind.ite {α : Type} {c : State → Prop} [∀ s, Decidable (c s)] {op op' : State → Res α}
    (hc : ∀ o s, c (s.withHost o) ↔ c s) (h : Blind op) (h' : Blind op') : Blind fun s => if c s then op s else op' s := by
  intro s
  unfold BlindAt
  by_cases hs : c s
  · simp only [hs, (hc _ s).2 hs, if_true]; exact h s
  · simp only [hs, mt (hc _ s).1 hs, if_false]; exact h' s

theorem drawByte_blind : Blind drawByte := .silent fun _ _ => rfl

theorem diskReadData_blind : Blind diskReadData := by
  refine .ite (fun _ _ => Iff.rfl) drawByte_blind (.ite (fun _ _ => Iff.rfl) (.silent fun _ _ => rfl) (.silent fun o s => ?_))
  show (match s.disk.store[s.disk.byteIndex]? with | none => _ | some v => _) = _
  cases s.disk.store[s.disk.byteIndex]? <;> rfl

theorem diskRead_blind (n : Nat) : Blind (diskRead n) := by
  refine .ite (fun _ _ => Iff.rfl) (.silent fun _ _ => rfl) ?_
  intro s
  split
  · exact diskReadData_blind s
  · exact .silent fun _ => rfl
  · exact drawByte_blind s

theorem diskWriteData_blind (v : Byte) : Blind (diskWriteData v) :=
  .ite (fun _ _ => Iff.rfl) (.silent fun _ _ => rfl) (.ite (fun _ _ => Iff.rfl) (.silent fun _ _ => rfl)
    (.ite (fun _ _ => Iff.rfl) (.silent fun _ _ => rfl) (.silent fun _ _ => rfl)))

theorem diskWrite_blind (n : Nat) (v : Byte) : Blind (diskWrite n v) := by
  refine .ite (fun _ _ => Iff.rfl) (.silent fun _ _ => rfl) ?_
  intro s
  split
  · exact diskWriteData_blind v s
  all_goals exact .silent fun _ => rfl

theorem timerRead_blind (n : Nat) : Blind (timerRead n) := by
  refine .silent fun o s => ?_
  unfold timerRead
  split <;> rfl

theorem busRead_blind (a : Addr) : Blind (busRead a) :=
  .ite (fun _ _ => Iff.rfl) (diskRead_blind _) (.ite (fun _ _ => Iff.rfl) (.silent fun _ _ => rfl) (.ite (fun _ _ => Iff.rfl) (.silent fun _ _ => rfl)
    (.ite (fun _ _ => Iff.rfl) (timerRead_blind _) (.ite (fun _ _ => Iff.rfl) (.silent fun _ _ => rfl) (.silent fun _ _ => rfl)))))

theorem emit_blind (e : EngineEvent) : Blind fun s => .ok () (s.emit e) := fun _ => ⟨[e], fun _ => rfl⟩

theorem busWrite_blind (a : Addr) (v : Byte) : Blind (busWrite a v) :=
  .ite (fun _ _ => Iff.rfl) (diskWrite_blind _ v) (.ite (fun _ _ => Iff.rfl) (fun s => emit_blind (.outputByte v) (s.storeByte a v))
    (.ite (fun _ _ => Iff.rfl) (.silent fun _ _ => rfl) (.ite (fun _ _ => Iff.rfl) (.silent fun _ _ => rfl) (.ite (fun _ _ => Iff.rfl) (.silent fun _ _ => rfl) (.silent fun _ _ => rfl)))))

theorem busRead16_blind (a : Addr) : Blind (busRead16 a) :=
  (busRead_blind a).bind fun _ => (busRead_blind (a + 1)).bind fun _ => .silent fun _ _ => rfl

theorem busRead16zp_blind (p : Byte) : Blind (busRead16zp p) :=
  (busRead_blind _).bind fun _ => (busRead_blind _).bind fun _ => .silent fun _ _ => rfl

theorem readSp_blind : Blind readSp := .ite (fun _ _ => Iff.rfl) (.silent fun _ _ => rfl) (.silent fun _ _ => rfl)

theorem push_blind (v : Byte) : Blind (push v) :=
  readSp_blind.bind fun sp => (busWrite_blind (stackAddr sp) v).bind fun _ => .silent fun _ _ => rfl

theorem pull_blind : Blind pull :=
  readSp_blind.bind fun sp => fun s => busRead_blind (stackAddr (sp + 1)) (s.setSp (sp + 1))

theorem pushWord_blind (w : Addr) : Blind (pushWord w) := (push_blind _).bind fun _ => push_blind _

theorem pullWord_blind : Blind pullWord := pull_blind.bind fun _ => pull_blind.bind fun _ => .silent fun _ _ => rfl

theorem enterException_blind (ret : Addr) (p : Byte) : Blind (enterException ret p) :=
  (pushWord_blind ret).bind fun _ => (push_blind p).bind fun _ =>
    .bind (fun s => busRead16_blind breakVector (s.setFlag .interrupt true)) fun _ => .silent fun _ _ => rfl

theorem returnFromException_blind : Blind returnFromException :=
  pull_blind.bind fun p => .bind (fun s => pullWord_blind (s.setP p)) fun _ => .silent fun _ _ => rfl

theorem interruptEntry_blind : Blind interruptEntry := by
  intro s
  unfold BlindAt
  exact ((enterException_blind s.pc ((s.p &&& ~~~0x10) ||| 0x20)).bind fun _ => .silent fun _ _ => rfl) s

theorem effectiveAddress_blind (m : Address) : Blind (effectiveAddress m) := by
  cases m with
  | izx z => exact fun s => busRead16zp_blind (z + s.x) s
  | izy z => exact (busRead16zp_blind z).bind fun _ => .silent fun _ _ => rfl
  | izp z => exact busRead16zp_blind z
  | _ => exact .silent fun _ _ => rfl

theorem readSource_blind (src : Source) : Blind (readSource src) := by
  cases src with
  | imm v => exact .silent fun _ _ => rfl
  | mem a => exact (effectiveAddress_blind a).bind busRead_blind

theorem storeTo_blind (dst : Address) (v : Byte) : Blind (storeTo dst v) :=
  (effectiveAddress_blind dst).bind fun ea => busWrite_blind ea v

theorem modifyMem_blind (dst : Address) (f : Byte → Byte) (g : Byte → Byte → Byte) : Blind (modifyMem dst f g) :=
  (effectiveAddress_blind dst).bind fun ea => (busRead_blind ea).bind fun m => (busWrite_blind ea (f m)).bind fun _ => .silent fun _ _ => rfl

theorem modifyTarget_blind (dst : Target) (f : Byte → Byte) (g : Byte → Byte → Byte) : Blind (modifyTarget dst f g) := by
  cases dst with
  | acc => exact .silent fun _ _ => rfl
  | mem a => exact modifyMem_blind a f g

theorem State.setRegNZ_withHost (o : HostSide) (s : State) (r : Reg) (v : Byte) :
    (s.withHost o).setRegNZ r v = (s.setRegNZ r v).withHost o := by
  cases r <;> rfl

theorem load_blind (r : Reg) (src : Source) : Blind (load r src) :=
  (readSource_blind src).bind fun m => .silent fun o s => by simp only [State.setRegNZ_withHost, Res.over_ok]

theorem logic_blind (op : Byte → Byte → Byte) (src : Source) : Blind (logic op src) := (readSource_blind src).bind fun _ => .silent fun _ _ => rfl

theorem bitTest_blind (src : Source) : Blind (bitTest src) := (readSource_blind src).bind fun _ => .silent fun _ _ => rfl

theorem compareReg_blind (r : Reg) (src : Source) : Blind (compareReg r src) :=
  (readSource_blind src).bind fun _ => .silent fun _ _ => by cases r <;> rfl

theorem writeAlu_blind (r : AluResult) : Blind (writeAlu r) := .ite (fun _ _ => Iff.rfl) (.silent fun _ _ => rfl) (.silent fun _ _ => rfl)

theorem addSource_blind {result : Byte → State → AluResult} (h : ∀ m o s, result m (s.withHost o) = result m s) (src : Source) :
    Blind (addSource result src) :=
  (readSource_blind src).bind fun m s => by unfold BlindAt; simp only [h]; exact writeAlu_blind _ s

theorem stepReg_blind (r : Reg) (d : Byte) : Blind (stepReg r d) := .silent fun _ _ => by cases r <;> rfl

theorem transfer_blind (src dst : Reg) : Blind (transfer src dst) := .silent fun _ _ => by cases src <;> cases dst <;> rfl

theorem pullReg_blind (r : Reg) : Blind (pullReg r) :=
  pull_blind.bind fun _ => .silent fun _ _ => by simp only [State.setRegNZ_withHost, Res.over_ok]

theorem branchBit_blind (want : Bool) (n : Nat) (z r : Byte) : Blind (branchBit want n z r) :=
  (busRead_blind _).bind fun _ => .silent fun _ _ => rfl

theorem jumpTarget_blind (dst : JumpOperand) : Blind (jumpTarget dst) := by
  cases dst with
  | abs w => exact .silent fun _ _ => rfl
  | ind w => exact busRead16_blind w
  | aix w => exact fun s => busRead16_blind (w + zext16 s.x) s

theorem jump_blind (dst : JumpOperand) : Blind (jump dst) := (jumpTarget_blind dst).bind fun _ => .silent fun _ _ => rfl

theorem call_blind (w : Addr) : Blind (call w) := by
  intro s
  unfold BlindAt
  exact ((pushWord_blind (s.pc + 2)).bind fun _ => .silent fun _ _ => rfl) s

theorem returnSub_blind : Blind returnSub := pullWord_blind.bind fun _ => .silent fun _ _ => rfl

/-- The same of an operation that answers a step's outcome. -/
def BlindStep (f : State → Host.Outcome State Fault Refusal) (s : State) : Prop :=
  ∃ es, ∀ o, f (s.withHost o) = onNext (f s) (State.withHost (o.emitAll es))

theorem BlindStep.silent {f : State → Host.Outcome State Fault Refusal} {s : State}
    (h : ∀ o, f (s.withHost o) = onNext (f s) (State.withHost o)) : BlindStep f s := ⟨[], fun o => by rw [h, HostSide.emitAll_nil]⟩

theorem Blind.outcome {op : State → Res Unit} (h : Blind op) {finish : State → State}
    (hf : ∀ o s, finish (s.withHost o) = (finish s).withHost o) (s : State) : BlindStep (fun s => (op s).outcome finish) s := by
  obtain ⟨es, h⟩ := h s
  refine ⟨es, fun o => ?_⟩
  simp only [h]
  cases op s with
  | ok v t => simp [hf]
  | fault e => rfl

theorem State.retire_withHost (n : Nat) (o : HostSide) (s : State) : (s.withHost o).retire n = (s.retire n).withHost o := rfl

theorem State.charge_withHost (o : HostSide) (s : State) : (s.withHost o).charge = s.charge.withHost o := rfl

/-- An instruction does not look at the host's side. -/
theorem exec_blind (i : Instr) (s : State) : BlindStep (exec i) s := by
  unfold BlindStep
  cases i with
  | lda src => exact (load_blind .a src).outcome (State.retire_withHost _) s
  | ldx src => exact (load_blind .x src).outcome (State.retire_withHost _) s
  | ldy src => exact (load_blind .y src).outcome (State.retire_withHost _) s
  | sta dst => exact (storeTo_blind dst s.a).outcome (State.retire_withHost _) s
  | stx dst => exact (storeTo_blind dst s.x).outcome (State.retire_withHost _) s
  | sty dst => exact (storeTo_blind dst s.y).outcome (State.retire_withHost _) s
  | stz dst => exact (storeTo_blind dst 0x00).outcome (State.retire_withHost _) s
  | adc src => exact (addSource_blind (fun _ _ _ => rfl) src).outcome (State.retire_withHost _) s
  | sbc src => exact (addSource_blind (fun _ _ _ => rfl) src).outcome (State.retire_withHost _) s
  | cmp src => exact (compareReg_blind .a src).outcome (State.retire_withHost _) s
  | cpx src => exact (compareReg_blind .x src).outcome (State.retire_withHost _) s
  | cpy src => exact (compareReg_blind .y src).outcome (State.retire_withHost _) s
  | inc dst | dec dst | asl dst | lsr dst => exact (modifyTarget_blind dst _ _).outcome (State.retire_withHost _) s
  | rol dst =>
    exact (modifyTarget_blind dst (rolByte (s.flag .carry))
      (fun m p => shiftFlags (m.getLsbD 7) (rolByte (s.flag .carry) m) p)).outcome (State.retire_withHost _) s
  | ror dst =>
    exact (modifyTarget_blind dst (rorByte (s.flag .carry))
      (fun m p => shiftFlags (m.getLsbD 0) (rorByte (s.flag .carry) m) p)).outcome (State.retire_withHost _) s
  | inx => exact (stepReg_blind .x 1).outcome (State.retire_withHost _) s
  | iny => exact (stepReg_blind .y 1).outcome (State.retire_withHost _) s
  | dex => exact (stepReg_blind .x (-1)).outcome (State.retire_withHost _) s
  | dey => exact (stepReg_blind .y (-1)).outcome (State.retire_withHost _) s
  | and src | ora src | eor src => exact (logic_blind _ src).outcome (State.retire_withHost _) s
  | bit src => exact (bitTest_blind src).outcome (State.retire_withHost _) s
  | trb dst => exact (modifyMem_blind dst (· &&& ~~~s.a) (testFlags s.a)).outcome (State.retire_withHost _) s
  | tsb dst => exact (modifyMem_blind dst (· ||| s.a) (testFlags s.a)).outcome (State.retire_withHost _) s
  | rmb0 z | rmb1 z | rmb2 z | rmb3 z | rmb4 z | rmb5 z | rmb6 z | rmb7 z | smb0 z | smb1 z | smb2 z | smb3 z | smb4 z | smb5 z
  | smb6 z | smb7 z => exact (modifyMem_blind (.zp z) _ _).outcome (State.retire_withHost _) s
  | bbr0 z r | bbr1 z r | bbr2 z r | bbr3 z r | bbr4 z r | bbr5 z r | bbr6 z r | bbr7 z r | bbs0 z r | bbs1 z r | bbs2 z r
  | bbs3 z r | bbs4 z r | bbs5 z r | bbs6 z r | bbs7 z r => exact (branchBit_blind _ _ z r).outcome State.charge_withHost s
  | jmp dst => exact (jump_blind dst).outcome State.charge_withHost s
  | jsr w => exact (call_blind w).outcome State.charge_withHost s
  | rts => exact returnSub_blind.outcome State.charge_withHost s
  | brk => exact (enterException_blind (s.pc + 2) (s.p ||| 0x30)).outcome State.charge_withHost s
  | rti => exact returnFromException_blind.outcome State.charge_withHost s
  | pha => exact (push_blind s.a).outcome (State.retire_withHost _) s
  | php => exact (push_blind (s.p ||| 0x30)).outcome (State.retire_withHost _) s
  | phx => exact (push_blind s.x).outcome (State.retire_withHost _) s
  | phy => exact (push_blind s.y).outcome (State.retire_withHost _) s
  | pla => exact (pullReg_blind .a).outcome (State.retire_withHost _) s
  | plx => exact (pullReg_blind .x).outcome (State.retire_withHost _) s
  | ply => exact (pullReg_blind .y).outcome (State.retire_withHost _) s
  | plp => exact (pull_blind.bind (k := fun p s1 => .ok () (s1.setP p)) fun _ => .silent fun _ _ => rfl).outcome (State.retire_withHost _) s
  | tsx =>
    exact (readSp_blind.bind (k := fun sp s1 => .ok () (s1.setRegNZ .x sp)) fun _ => .silent fun _ _ => rfl).outcome (State.retire_withHost _) s
  | bcc | bcs | beq | bne | bmi | bpl | bvc | bvs | bra | tax | tay | txa | tya | txs | clc | sec | cli | sei | cld | sed | clv
  | nop | nop1 | nop2 | nop3 | wai | stp => exact BlindStep.silent (f := exec _) fun _ => rfl

theorem fetch_blind : Blind fetch := by
  intro s
  refine ((busRead_blind s.pc).bind (k := fun op s1 =>
    (readOperandBytes (operandReadsOf s.cfg.wdcUnnamedExt op) (s1.latchOpcode op)).bind fun b s2 =>
      .ok (decodeBytes s.cfg.wdcUnnamedExt op b.1 b.2) s2) ?_) s
  intro op
  refine .bind ?_ fun _ => .silent fun _ _ => rfl
  intro s1
  generalize operandReadsOf s.cfg.wdcUnnamedExt op = n
  match n with
  | 0 => exact .silent fun _ => rfl
  | 1 => exact ((busRead_blind ((s1.latchOpcode op).pc + 1)).bind (k := fun b1 s2 => .ok (b1, 0) s2) fun _ => .silent fun _ _ => rfl) (s1.latchOpcode op)
  | _ + 2 =>
    exact ((busRead_blind ((s1.latchOpcode op).pc + 1)).bind
      (k := fun b1 s2 => (busRead ((s1.latchOpcode op).pc + 2) s2).bind fun b2 s3 => .ok (b1, b2) s3)
      fun _ => (busRead_blind _).bind fun _ => .silent fun _ _ => rfl) (s1.latchOpcode op)

theorem resetSequence_blind : Blind resetSequence := by
  intro s
  exact ((busRead16_blind resetVector).bind (k := fun target s1 => .ok () (s1.setPc target)) fun _ => .silent fun _ _ => rfl) s.resetFields

theorem applyCommand_blind (c : HostCommand) : Blind (applyCommand c) := by
  cases c with
  | reset => exact resetSequence_blind
  | sendInputByte ch =>
    refine .silent fun o s => ?_
    simp only [applyCommand, State.sendInput]
    split <;> rfl
  | fetchMemorySnapshot => exact fun s => emit_blind (.memorySnapshot s.mem) s
  | fetchProcessorSnapshot => exact fun s => emit_blind (.processorSnapshot s.snapshot) s
  | setLogLevel | togglePause | step => exact .silent fun _ _ => rfl

theorem applyCommands_blind (cs : List HostCommand) : Blind (applyCommands cs) := by
  induction cs with
  | nil => exact .silent fun _ _ => rfl
  | cons c cs ih => exact (applyCommand_blind c).bind fun _ => ih

theorem State.logAndStall_withHost (s : State) : ∃ es, ∀ o, (s.withHost o).logAndStall = s.logAndStall.withHost (o.emitAll es) := by
  have level o : (s.withHost o).logLevel = s.logLevel := rfl
  have draws o : (s.withHost o).drawCount = s.drawCount := rfl
  simp only [State.logAndStall, level, draws]
  by_cases h : s.logLevel = 0
  · exact ⟨[], fun o => by simp only [h, if_true, HostSide.emitAll_nil]⟩
  simp only [h, if_false]
  split <;> exact ⟨_, fun _ => rfl⟩

theorem State.endStep_withHost (s : State) : ∃ es, ∀ o, (s.withHost o).endStep = s.endStep.withHost (o.emitAll es) :=
  s.tickAll.logAndStall_withHost

theorem runInstruction_blind (s : State) : BlindStep runInstruction s := by
  obtain ⟨es, hf⟩ := fetch_blind s
  unfold BlindStep runInstruction
  simp only [hf]
  cases fetch s with
  | ok i t =>
    obtain ⟨fs, hi⟩ := exec_blind i t
    exact ⟨es ++ fs, fun o => (hi (o.emitAll es)).trans (by rw [HostSide.emitAll_append])⟩
  | fault f => exact ⟨[], fun _ => rfl⟩

theorem BlindStep.endStep {f : State → Host.Outcome State Fault Refusal} {s : State} (h : BlindStep f s) :
    BlindStep (fun s => onNext (f s) State.endStep) s := by
  obtain ⟨es, h⟩ := h
  unfold BlindStep
  simp only [h]
  cases f s with
  | next t =>
    obtain ⟨fs, k⟩ := t.endStep_withHost
    exact ⟨es ++ fs, fun o => congrArg Host.Outcome.next ((k (o.emitAll es)).trans (by rw [HostSide.emitAll_append]))⟩
  | fault f => exact ⟨[], fun _ => rfl⟩
  | refused r => exact ⟨[], fun _ => rfl⟩

theorem executeOne_blind (s : State) : BlindStep executeOne s := by
  have taken o : (s.withHost o).takesInterrupt = s.takesInterrupt := rfl
  refine BlindStep.endStep (f := fun s => if s.takesInterrupt then (interruptEntry s).outcome id else runInstruction s) ?_
  unfold BlindStep
  simp only [taken]
  split
  · exact interruptEntry_blind.outcome (fun _ _ => rfl) s
  · exact runInstruction_blind s

/-- A step of the engine does not look at the host's side. -/
theorem engineStep_blind (s : State) : BlindStep engineStep s := by
  have run o : (s.withHost o).runState = s.runState := rfl
  have req o : (s.withHost o).stepRequest = s.stepRequest := rfl
  have mode o : (s.withHost o).cpuMode = s.cpuMode := rfl
  have line o : (s.withHost o).irqLine = s.irqLine := rfl
  unfold BlindStep engineStep
  simp only [run, req, mode, line]
  split
  · exact s.logAndStall_withHost.imp fun _ h o => congrArg Host.Outcome.next (h o)
  cases s.cpuMode with
  | stopped => exact s.clearRequest.logAndStall_withHost.imp fun _ h o => congrArg Host.Outcome.next (h o)
  | waiting =>
    cases s.irqLine with
    | true => exact executeOne_blind (s.clearRequest.setMode .executing)
    | false => exact s.clearRequest.endStep_withHost.imp fun _ h o => congrArg Host.Outcome.next (h o)
  | executing => exact executeOne_blind s.clearRequest

/-- All that an operation does to the host's side: it emits some events. -/
theorem Blind.hostSide {α : Type} {op : State → Res α} (h : Blind op) {s t : State} {v : α} (e : op s = .ok v t) :
    ∃ es, t.hostSide = s.hostSide.emitAll es := by
  obtain ⟨es, k⟩ := h s
  have k := k s.hostSide
  rw [s.withHost_hostSide, e, Res.over_ok, Res.ok.injEq] at k
  exact ⟨es, congrArg State.hostSide k.2⟩

/-- All that a step of the engine does to the host's side: it emits some events. -/
theorem engineStep_hostSide {s t : State} (h : engineStep s = .next t) : ∃ es, t.hostSide = s.hostSide.emitAll es := by
  obtain ⟨es, k⟩ := engineStep_blind s
  have k := k s.hostSide
  rw [s.withHost_hostSide, h] at k
  exact ⟨es, congrArg State.hostSide (Host.Outcome.next.inj k)⟩

/-- The host's side at the next boundary: the commands of the one past are gone. -/
def HostSide.nextBoundary (o : HostSide) : HostSide := { o with commands := o.commands.tail }

/-- A step looks at no more of the host's side than the commands pending now. -/
theorem step_blind (s : State) : ∃ es, ∀ o : HostSide, o.commands.headD [] = s.commands.headD [] →
    step (s.withHost o) = onNext (step s) (State.withHost (o.nextBoundary.emitAll es)) := by
  have pending {o : HostSide} (h : o.commands.headD [] = s.commands.headD []) : (s.withHost o).pending = s.pending := h
  have taken o : (s.withHost o).takeCommands = s.takeCommands.withHost o.nextBoundary := rfl
  obtain ⟨es, h⟩ := applyCommands_blind s.pending s.takeCommands
  unfold step harnessStep
  cases e : applyCommands s.pending s.takeCommands with
  | fault f => exact ⟨[], fun o ho => by rw [pending ho, taken, h, e]; rfl⟩
  | ok v t =>
    obtain ⟨fs, k⟩ := engineStep_blind t
    exact ⟨es ++ fs, fun o ho => by rw [pending ho, taken, h, e, HostSide.emitAll_append]; exact k _⟩

/-- All that a step does to the host's side: it takes the pending commands and emits some events. -/
theorem step_hostSide {s t : State} (h : step s = .next t) : ∃ es, t.hostSide = s.hostSide.nextBoundary.emitAll es := by
  obtain ⟨es, k⟩ := step_blind s
  have k := k s.hostSide rfl
  rw [s.withHost_hostSide, h] at k
  exact ⟨es, congrArg State.hostSide (Host.Outcome.next.inj k)⟩

end Sys2Proof.Machine
end

