-- ==== Sys2Proof/Laws/Ops.lean ====
section
/-! SUPPORT. One lemma per shared operation of Ops and Operands that says everything it can do when it answers a value: the registers
it writes (`t = (…).withBus t`), what it keeps (BusEffect, ReadEffect), and which bytes of storage it leaves. -/

namespace Sys2Proof.Machine

/-- The bus invariants do not depend on the registers. -/
theorem BusEffect.of_withBus {s s' t : State} (h : BusEffect s' t) (hs : s'.withBus s = s') (hc : s'.cfg = s.cfg)
    (hr : s'.receiver = s.receiver) :
    BusEffect s t := by
  have hm : s'.mem = s.mem := by rw [← hs]; rfl
  have hd : s'.disk = s.disk := by rw [← hs]; rfl
  have ht : s'.timer = s.timer := by rw [← hs]; rfl
  have he : Emitted [] s s' := .none hr (by rw [← hs]; rfl) (by rw [← hs]; rfl)
  obtain ⟨h1, h2, h3, h4, h5, h6, h7, out, h8⟩ := h
  rw [hm] at h2; rw [hd] at h3 h4 h5; rw [ht] at h6 h7; rw [hc] at h1 h5
  exact ⟨h1, h2, h3, h4, h5, h6, h7, out, he.trans h8⟩

theorem ReadEffect.of_withBus {s s' t : State} (h : ReadEffect s' t) (hs : s'.withBus s = s') (hc : s'.cfg = s.cfg)
    (hr : s'.receiver = s.receiver) :
    ReadEffect s t := by
  have he : s'.events = s.events := by rw [← hs]; rfl
  have hm : s'.mem = s.mem := by rw [← hs]; rfl
  have hd : s'.disk = s.disk := by rw [← hs]; rfl
  refine ⟨h.effect.of_withBus hs hc hr, h.events.trans he, by rw [h.store, hd], ?_⟩
  have := h.mem
  rwa [hm, hc] at this

theorem BusEffect.setSp {s t : State} (h : BusEffect s t) (v : Byte) : BusEffect s (t.setSp v) :=
  ⟨h.cfg, h.memWf, h.storeLength, h.offset, h.active, h.ifr, h.ier,
    h.outputs.imp fun _ k => ⟨k.receiver, k.events, k.delivered⟩⟩

theorem BusEffect.setP {s t : State} (h : BusEffect s t) (p : Byte) : BusEffect s (t.setP p) :=
  ⟨h.cfg, h.memWf, h.storeLength, h.offset, h.active, h.ifr, h.ier,
    h.outputs.imp fun _ k => ⟨k.receiver, k.events, k.delivered⟩⟩

theorem BusEffect.setPc {s t : State} (h : BusEffect s t) (a : Addr) : BusEffect s (t.setPc a) :=
  ⟨h.cfg, h.memWf, h.storeLength, h.offset, h.active, h.ifr, h.ier,
    h.outputs.imp fun _ k => ⟨k.receiver, k.events, k.delivered⟩⟩

theorem BusEffect.addCycles {s t : State} (h : BusEffect s t) (n : Nat) : BusEffect s (t.addCycles n) :=
  ⟨h.cfg, h.memWf, h.storeLength, h.offset, h.active, h.ifr, h.ier,
    h.outputs.imp fun _ k => ⟨k.receiver, k.events, k.delivered⟩⟩

theorem ReadEffect.setSp {s t : State} (h : ReadEffect s t) (v : Byte) : ReadEffect s (t.setSp v) :=
  ⟨h.effect.setSp v, h.events, h.store, h.mem⟩

theorem ReadEffect.setP {s t : State} (h : ReadEffect s t) (p : Byte) : ReadEffect s (t.setP p) :=
  ⟨h.effect.setP p, h.events, h.store, h.mem⟩

theorem ReadEffect.setPc {s t : State} (h : ReadEffect s t) (a : Addr) : ReadEffect s (t.setPc a) :=
  ⟨h.effect.setPc a, h.events, h.store, h.mem⟩

/-- SP can be read exactly where it holds a value (R22, R219). -/
theorem readSp_held {s : State} (h : s.spHeld = true) : readSp s = .ok s.sp s := by simp [readSp, h]

theorem readSp_unwritten {s : State} (h : s.spHeld = false) : readSp s = .fault .unwrittenSP := by simp [readSp, h]

theorem readSp_ok {s t : State} {v : Byte} (h : readSp s = .ok v t) : s.spHeld = true ∧ v = s.sp ∧ t = s := by
  simp only [readSp] at h
  split at h <;> cases h
  exact ⟨by assumption, rfl, rfl⟩

/-- Everything a push can do (R52). -/
theorem push_ok {v : Byte} {s t : State} (h : push v s = .ok () t) :
    s.spHeld = true ∧ t = (s.setSp (s.sp - 1)).withBus t ∧ BusEffect s t ∧
    ∀ b, b ≠ stackAddr s.sp → t.byteAt b = s.byteAt b := by
  obtain ⟨sp, s1, h1, h⟩ := Res.bind_eq_ok.1 h
  obtain ⟨held, rfl, rfl⟩ := readSp_ok h1
  obtain ⟨_, s2, h2, h⟩ := Res.bind_eq_ok.1 h
  cases h
  have e := busWrite_busEffect h2
  refine ⟨held, ?_, e.1.setSp _, e.2⟩
  conv_lhs => rw [busWrite_only h2]
  rfl

/-- Everything a pull can do (R53). -/
theorem pull_ok {v : Byte} {s t : State} (h : pull s = .ok v t) :
    s.spHeld = true ∧ t = (s.setSp (s.sp + 1)).withBus t ∧ ReadEffect s t := by
  obtain ⟨sp, s1, h1, h⟩ := Res.bind_eq_ok.1 h
  obtain ⟨held, rfl, rfl⟩ := readSp_ok h1
  exact ⟨held, busRead_only h, (busRead_readEffect h).of_withBus rfl rfl rfl⟩

/-- Everything pushing a word can do (R54). -/
theorem pushWord_ok {w : Addr} {s t : State} (h : pushWord w s = .ok () t) :
    s.spHeld = true ∧ t = (s.setSp (s.sp - 1 - 1)).withBus t ∧ BusEffect s t ∧
    ∀ b, b ≠ stackAddr s.sp → b ≠ stackAddr (s.sp - 1) → t.byteAt b = s.byteAt b := by
  obtain ⟨_, s1, h1, h⟩ := Res.bind_eq_ok.1 h
  obtain ⟨held, e1, b1, m1⟩ := push_ok h1
  obtain ⟨_, e2, b2, m2⟩ := push_ok h
  have hsp : s1.sp = s.sp - 1 := by rw [e1]; rfl
  refine ⟨held, ?_, b1.trans b2, fun b x y => (m2 b (hsp ▸ y)).trans (m1 b x)⟩
  rw [e2, hsp, e1]; rfl

/-- Everything pulling a word can do (R54). -/
theorem pullWord_ok {w : Addr} {s t : State} (h : pullWord s = .ok w t) :
    s.spHeld = true ∧ t = (s.setSp (s.sp + 1 + 1)).withBus t ∧ ReadEffect s t := by
  obtain ⟨lo, s1, h1, h⟩ := Res.bind_eq_ok.1 h
  obtain ⟨hi, s2, h2, h⟩ := Res.bind_eq_ok.1 h
  cases h
  obtain ⟨held, e1, r1⟩ := pull_ok h1
  obtain ⟨_, e2, r2⟩ := pull_ok h2
  have hsp : s1.sp = s.sp + 1 := by rw [e1]; rfl
  refine ⟨held, ?_, r1.trans r2⟩
  rw [e2, hsp, e1]; rfl

/-- Everything taking an exception can do (R175, R214): SP moves by three, I is set, PC takes the vector; storage changes in the
three stack slots only, and a read of the vector through the serial input clears the ready flag. -/
theorem enterException_ok {ret : Addr} {p : Byte} {s t : State} (h : enterException ret p s = .ok () t) :
    s.spHeld = true ∧ t = (((s.setSp (s.sp - 1 - 1 - 1)).setFlag .interrupt true).setPc t.pc).withBus t ∧ BusEffect s t ∧
    ∀ b, b ≠ stackAddr s.sp → b ≠ stackAddr (s.sp - 1) → b ≠ stackAddr (s.sp - 1 - 1) →
      t.byteAt b = s.byteAt b ∨ (b = s.cfg.serialReady ∧ t.byteAt b = 0x00) := by
  obtain ⟨_, s1, h1, h⟩ := Res.bind_eq_ok.1 h
  obtain ⟨_, s2, h2, h⟩ := Res.bind_eq_ok.1 h
  obtain ⟨target, s3, h3, h⟩ := Res.bind_eq_ok.1 h
  cases h
  obtain ⟨held, e1, b1, m1⟩ := pushWord_ok h1
  obtain ⟨_, e2, b2, m2⟩ := push_ok h2
  have hsp : s1.sp = s.sp - 1 - 1 := by rw [e1]; rfl
  have r3 : ReadEffect s2 s3 := (busRead16_readEffect h3).of_withBus rfl rfl rfl
  have b12 := b1.trans b2
  refine ⟨held, ?_, (b12.trans r3.effect).setPc target, fun b x y z => ?_⟩
  · conv_lhs => rw [busRead16_only h3, e2, hsp, e1]
    rfl
  · have k := r3.byteAt b
    rw [m2 b (hsp ▸ z), m1 b x y, b12.cfg] at k
    exact k

/-- Everything returning from an exception can do (R176). -/
theorem returnFromException_ok {s t : State} (h : returnFromException s = .ok () t) :
    s.spHeld = true ∧ t = (((s.setSp (s.sp + 1 + 1 + 1)).setP t.p).setPc t.pc).withBus t ∧ ReadEffect s t := by
  obtain ⟨p, s1, h1, h⟩ := Res.bind_eq_ok.1 h
  obtain ⟨target, s2, h2, h⟩ := Res.bind_eq_ok.1 h
  cases h
  obtain ⟨held, e1, r1⟩ := pull_ok h1
  obtain ⟨_, e2, r2⟩ := pullWord_ok h2
  have hsp : s1.sp = s.sp + 1 := by rw [e1]; rfl
  have r2' : ReadEffect s1 s2 := r2.of_withBus rfl rfl rfl
  refine ⟨held, ?_, (r1.trans r2').setPc target⟩
  have e : s2 = ((s.setSp (s.sp + 1 + 1 + 1)).setP p).withBus s2 := by
    conv_lhs => rw [e2, show (s1.setP p).sp = s.sp + 1 from hsp, e1]
    rfl
  have hp : s2.p = p := by rw [e]; rfl
  conv_lhs => rw [e]
  simp only [State.setPc_p, hp]
  rfl

/-- Everything resolving a memory operand can do (R94-R102): bus reads. -/
theorem effectiveAddress_ok {m : Address} {s t : State} {ea : Addr} (h : effectiveAddress m s = .ok ea t) :
    t = s.withBus t ∧ ReadEffect s t := by
  cases m <;> simp only [effectiveAddress] at h
  case izx => exact ⟨busRead16zp_only h, busRead16zp_readEffect h⟩
  case izp => exact ⟨busRead16zp_only h, busRead16zp_readEffect h⟩
  case izy =>
    obtain ⟨_, s1, h1, h⟩ := Res.bind_eq_ok.1 h
    cases h
    exact ⟨busRead16zp_only h1, busRead16zp_readEffect h1⟩
  all_goals (cases h; exact ⟨rfl, .refl _⟩)

/-- Everything reading a source operand can do: bus reads. -/
theorem readSource_ok {src : Source} {s t : State} {m : Byte} (h : readSource src s = .ok m t) :
    t = s.withBus t ∧ ReadEffect s t := by
  cases src with
  | imm v => cases h; exact ⟨rfl, .refl _⟩
  | mem a =>
    obtain ⟨ea, s1, h1, h⟩ := Res.bind_eq_ok.1 h
    obtain ⟨e1, r1⟩ := effectiveAddress_ok h1
    refine ⟨?_, r1.trans (busRead_readEffect h)⟩
    rw [busRead_only h, e1]; rfl

/-- Everything a store can do (R91): storage changes at the effective address only. -/
theorem storeTo_ok {dst : Address} {v : Byte} {s t : State} (h : storeTo dst v s = .ok () t) :
    t = s.withBus t ∧ BusEffect s t ∧
    ∃ ea s1, effectiveAddress dst s = .ok ea s1 ∧
      ∀ b, b ≠ ea → t.byteAt b = s.byteAt b ∨ (b = s.cfg.serialReady ∧ t.byteAt b = 0x00) := by
  obtain ⟨ea, s1, h1, h⟩ := Res.bind_eq_ok.1 h
  obtain ⟨e1, r1⟩ := effectiveAddress_ok h1
  obtain ⟨b2, m2⟩ := busWrite_busEffect h
  refine ⟨?_, r1.effect.trans b2, ea, s1, h1, fun b hb => by rw [m2 b hb]; exact r1.byteAt b⟩
  rw [busWrite_only h, e1]; rfl

/-- Everything a read-modify-write of a memory operand can do (R91). -/
theorem modifyMem_ok {dst : Address} {f : Byte → Byte} {g : Byte → Byte → Byte} {s t : State}
    (h : modifyMem dst f g s = .ok () t) :
    (∃ m, t = (s.setP (g m s.p)).withBus t) ∧ BusEffect s t ∧
    ∃ ea s1, effectiveAddress dst s = .ok ea s1 ∧
      ∀ b, b ≠ ea → t.byteAt b = s.byteAt b ∨ (b = s.cfg.serialReady ∧ t.byteAt b = 0x00) := by
  obtain ⟨ea, s1, h1, h⟩ := Res.bind_eq_ok.1 h
  obtain ⟨m, s2, h2, h⟩ := Res.bind_eq_ok.1 h
  obtain ⟨_, s3, h3, h⟩ := Res.bind_eq_ok.1 h
  cases h
  obtain ⟨e1, r1⟩ := effectiveAddress_ok h1
  have r12 := r1.trans (busRead_readEffect h2)
  obtain ⟨b3, m3⟩ := busWrite_busEffect h3
  have e3 : s3 = s.withBus s3 := by rw [busWrite_only h3, busRead_only h2, e1]; rfl
  have hp : s3.p = s.p := by rw [e3]; rfl
  refine ⟨⟨m, ?_⟩, (r12.effect.trans b3).setP _, ea, s1, h1, fun b hb => ?_⟩
  · rw [hp]; conv_lhs => rw [e3]
    rfl
  · have k := r12.byteAt b
    rw [← m3 b hb] at k
    exact k

/-- A jump operand's target is found by bus reads (R103, R104). -/
theorem jumpTarget_ok {dst : JumpOperand} {s t : State} {w : Addr} (h : jumpTarget dst s = .ok w t) :
    t = s.withBus t ∧ ReadEffect s t := by
  cases dst <;> simp only [jumpTarget] at h
  case abs => cases h; exact ⟨rfl, .refl _⟩
  all_goals exact ⟨busRead16_only h, busRead16_readEffect h⟩

/-- Fetching an instruction: bus reads, and `currentInstruction` takes the opcode (R90). -/
theorem fetch_ok {i : Instr} {s t : State} (h : fetch s = .ok i t) :
    (∃ op b1 b2, i = decodeBytes s.cfg.wdcUnnamedExt op b1 b2 ∧
      t = State.withBus (s.latchOpcode op) t) ∧ ReadEffect s t := by
  obtain ⟨op, s1, h1, h⟩ := Res.bind_eq_ok.1 h
  obtain ⟨b, s2, h2, h⟩ := Res.bind_eq_ok.1 h
  cases h
  have e1 := busRead_only h1
  have r1 := busRead_readEffect h1
  have key : ∀ n, readOperandBytes n (s1.latchOpcode op) = .ok b t →
      t = State.withBus (s1.latchOpcode op) t ∧
      ReadEffect (s1.latchOpcode op) t := by
    intro n hn
    unfold readOperandBytes at hn
    split at hn
    · cases hn; exact ⟨rfl, .refl _⟩
    · obtain ⟨_, u, hu, hn⟩ := Res.bind_eq_ok.1 hn
      cases hn
      exact ⟨busRead_only hu, busRead_readEffect hu⟩
    · obtain ⟨_, u, hu, hn⟩ := Res.bind_eq_ok.1 hn
      obtain ⟨_, w, hw, hn⟩ := Res.bind_eq_ok.1 hn
      cases hn
      refine ⟨?_, (busRead_readEffect hu).trans (busRead_readEffect hw)⟩
      rw [busRead_only hw, busRead_only hu]; rfl
  obtain ⟨e2, r2⟩ := key _ h2
  refine ⟨⟨op, b.1, b.2, rfl, ?_⟩, r1.trans (r2.of_withBus rfl rfl rfl)⟩
  conv_lhs => rw [e2, e1]
  rfl

end Sys2Proof.Machine
end

