-- ==== Sys2Proof/Laws/Meanings.lean ====
section
/-! SUPPORT. One lemma per shared operation of the instruction families, and of interrupt entry and reset, that says everything it
can do when it answers a value. -/

namespace Sys2Proof.Machine

theorem ReadEffect.setReg {s t : State} (h : ReadEffect s t) (r : Reg) (v : Byte) : ReadEffect s (t.setReg r v) := by
  cases r <;> exact ⟨⟨h.effect.cfg, h.effect.memWf, h.effect.storeLength, h.effect.offset, h.effect.active, h.effect.ifr,
    h.effect.ier, h.effect.outputs.imp fun _ k => ⟨k.receiver, k.events, k.delivered⟩⟩,
    h.events, h.store, h.mem⟩

theorem ReadEffect.setRegNZ {s t : State} (h : ReadEffect s t) (r : Reg) (v : Byte) : ReadEffect s (t.setRegNZ r v) :=
  (h.setReg r v).setP _

theorem State.withBus_setReg (s t : State) (r : Reg) (v : Byte) : (s.withBus t).setReg r v = (s.setReg r v).withBus t := by
  cases r <;> rfl

/-- Writing a register and P after bus reads. -/
theorem State.setReg_setP_of_withBus {s u : State} (e : u = s.withBus u) (r : Reg) (v p : Byte) :
    (u.setReg r v).setP p = ((s.setReg r v).setP p).withBus ((u.setReg r v).setP p) := by
  conv_lhs => rw [e]
  cases r <;> rfl

/-- A load (R110-R112): the register and P, by bus reads. -/
theorem load_ok {r : Reg} {src : Source} {s t : State} (h : load r src s = .ok () t) :
    ∃ m, t = (s.setRegNZ r m).withBus t ∧ ReadEffect s t := by
  obtain ⟨m, u, h1, h⟩ := Res.bind_eq_ok.1 h
  cases h
  obtain ⟨e, k⟩ := readSource_ok h1
  refine ⟨m, ?_, k.setRegNZ r m⟩
  have hp : u.p = s.p := by rw [e]; rfl
  simp only [State.setRegNZ, hp]
  exact State.setReg_setP_of_withBus e _ _ _

/-- Writing an adder's result (R121-R125): A, and C, V, N, Z of P; V is the adder's or a free bit. -/
theorem writeAlu_ok {r : AluResult} {s t : State} (h : writeAlu r s = .ok () t) :
    ∃ v, t = ((s.setReg .a r.value).setP (aluFlags r v s.p)).withBus t ∧ ReadEffect s t := by
  unfold writeAlu at h
  split at h
  · obtain ⟨v, u, h1, h⟩ := Res.bind_eq_ok.1 h
    cases h1; cases h
    exact ⟨_, rfl, ((s.drawn_readEffect).setReg .a _).setP _⟩
  · cases h
    exact ⟨_, rfl, ((ReadEffect.refl s).setReg .a _).setP _⟩

/-- ADC and SBC (R124, R125). -/
theorem addSource_ok {f : Byte → State → AluResult} {src : Source} {s t : State} (h : addSource f src s = .ok () t) :
    ∃ r v, t = ((s.setReg .a r.value).setP (aluFlags r v s.p)).withBus t ∧ ReadEffect s t := by
  obtain ⟨m, u, h1, h⟩ := Res.bind_eq_ok.1 h
  obtain ⟨e, k⟩ := readSource_ok h1
  obtain ⟨v, e2, k2⟩ := writeAlu_ok h
  have hp : u.p = s.p := by rw [e]; rfl
  refine ⟨f m u, v, ?_, k.trans k2⟩
  rw [hp] at e2
  generalize f m u = r at e2 ⊢
  conv_lhs => rw [e2, e]
  rfl

/-- A comparison (R126-R129): P only, by bus reads. -/
theorem compareReg_ok {r : Reg} {src : Source} {s t : State} (h : compareReg r src s = .ok () t) :
    ∃ m, t = (s.setP (compareFlags s.cfg.cmpFlags (s.reg r) m s.p)).withBus t ∧ ReadEffect s t := by
  obtain ⟨m, u, h1, h⟩ := Res.bind_eq_ok.1 h
  cases h
  obtain ⟨e, k⟩ := readSource_ok h1
  refine ⟨m, ?_, k.setP _⟩
  conv_lhs => rw [e]
  cases r <;> rfl

/-- AND, ORA, EOR (R140-R142): A and P, by bus reads. -/
theorem logic_ok {op : Byte → Byte → Byte} {src : Source} {s t : State} (h : logic op src s = .ok () t) :
    ∃ v, t = (s.setRegNZ .a v).withBus t ∧ ReadEffect s t := by
  obtain ⟨m, u, h1, h⟩ := Res.bind_eq_ok.1 h
  cases h
  obtain ⟨e, k⟩ := readSource_ok h1
  refine ⟨op u.a m, ?_, k.setRegNZ .a _⟩
  have hp : u.p = s.p := by rw [e]; rfl
  simp only [State.setRegNZ, hp]
  exact State.setReg_setP_of_withBus e _ _ _

/-- BIT (R143): P only, by bus reads. -/
theorem bitTest_ok {src : Source} {s t : State} (h : bitTest src s = .ok () t) :
    ∃ m, t = (s.setP (bitFlags (bitCopiesNV s.cfg.bitImmFlags src) s.a m s.p)).withBus t ∧ ReadEffect s t := by
  obtain ⟨m, u, h1, h⟩ := Res.bind_eq_ok.1 h
  cases h
  obtain ⟨e, k⟩ := readSource_ok h1
  refine ⟨m, ?_, k.setP _⟩
  conv_lhs => rw [e]
  rfl

/-- A bit-branch (R170, R171): PC only, by one bus read. -/
theorem branchBit_ok {want : Bool} {n : Nat} {z r : Byte} {s t : State} (h : branchBit want n z r s = .ok () t) :
    ∃ m : Byte, t = (s.setPc (branchTarget (m.getLsbD n == want) 3 r s.pc)).withBus t ∧ ReadEffect s t := by
  obtain ⟨m, u, h1, h⟩ := Res.bind_eq_ok.1 h
  cases h
  refine ⟨m, ?_, (busRead_readEffect h1).setPc _⟩
  conv_lhs => rw [busRead_only h1]
  rfl

/-- JMP (R172): PC only, by bus reads. -/
theorem jump_ok {dst : JumpOperand} {s t : State} (h : jump dst s = .ok () t) :
    t = (s.setPc t.pc).withBus t ∧ ReadEffect s t := by
  obtain ⟨w, u, h1, h⟩ := Res.bind_eq_ok.1 h
  cases h
  obtain ⟨e, k⟩ := jumpTarget_ok h1
  refine ⟨?_, k.setPc _⟩
  conv_lhs => rw [e]
  rfl

/-- JSR (R173): SP moves by two, PC is the operand; storage changes in the two stack slots only. -/
theorem call_ok {w : Addr} {s t : State} (h : call w s = .ok () t) :
    s.spHeld = true ∧ t = ((s.setSp (s.sp - 1 - 1)).setPc w).withBus t ∧ BusEffect s t ∧
    ∀ b, b ≠ stackAddr s.sp → b ≠ stackAddr (s.sp - 1) → t.byteAt b = s.byteAt b := by
  obtain ⟨_, u, h1, h⟩ := Res.bind_eq_ok.1 h
  cases h
  obtain ⟨held, e, k, m⟩ := pushWord_ok h1
  refine ⟨held, ?_, k.setPc _, m⟩
  conv_lhs => rw [e]
  rfl

/-- RTS (R174): SP moves by two, PC is written, by bus reads. -/
theorem returnSub_ok {s t : State} (h : returnSub s = .ok () t) :
    s.spHeld = true ∧ t = ((s.setSp (s.sp + 1 + 1)).setPc t.pc).withBus t ∧ ReadEffect s t := by
  obtain ⟨w, u, h1, h⟩ := Res.bind_eq_ok.1 h
  cases h
  obtain ⟨held, e, k⟩ := pullWord_ok h1
  refine ⟨held, ?_, k.setPc _⟩
  conv_lhs => rw [e]
  rfl

/-- PLA, PLX, PLY (R184, R186, R187): SP, the register and P, by one bus read. -/
theorem pullReg_ok {r : Reg} {s t : State} (h : pullReg r s = .ok () t) :
    ∃ v, s.spHeld = true ∧ t = ((s.setSp (s.sp + 1)).setRegNZ r v).withBus t ∧ ReadEffect s t := by
  obtain ⟨v, u, h1, h⟩ := Res.bind_eq_ok.1 h
  cases h
  obtain ⟨held, e, k⟩ := pull_ok h1
  refine ⟨v, held, ?_, k.setRegNZ r v⟩
  conv_lhs => rw [e]
  cases r <;> rfl

/-- A read-modify-write of the accumulator or of memory (R91, R92). -/
theorem modifyTarget_ok {dst : Target} {f : Byte → Byte} {g : Byte → Byte → Byte} {s t : State}
    (h : modifyTarget dst f g s = .ok () t) :
    (dst = .acc ∧ t = (s.setReg .a (f s.a)).setP (g s.a s.p)) ∨
    ∃ a, dst = .mem a ∧ (∃ m, t = (s.setP (g m s.p)).withBus t) ∧ BusEffect s t ∧
      ∃ ea s1, effectiveAddress a s = .ok ea s1 ∧
        ∀ b, b ≠ ea → t.byteAt b = s.byteAt b ∨ (b = s.cfg.serialReady ∧ t.byteAt b = 0x00) := by
  cases dst with
  | acc => cases h; exact .inl ⟨rfl, rfl⟩
  | mem a => exact .inr ⟨a, rfl, modifyMem_ok h⟩

/-- Interrupt entry (R214): as taking an exception; the clock advances by `IRQ_CYCLES`. -/
theorem interruptEntry_ok {s t : State} (h : interruptEntry s = .ok () t) :
    s.spHeld = true ∧
    t = ((((s.setSp (s.sp - 1 - 1 - 1)).setFlag .interrupt true).setPc t.pc).addCycles s.cfg.irqCycles).withBus t ∧
    BusEffect s t := by
  obtain ⟨_, u, h1, h⟩ := Res.bind_eq_ok.1 h
  cases h
  obtain ⟨held, e, k, -⟩ := enterException_ok h1
  refine ⟨held, ?_, k.addCycles _⟩
  conv_lhs => rw [e]
  rfl

/-- The reset sequence (R270): the fields it writes, then bus reads of the vector. -/
theorem resetSequence_ok {s t : State} (h : resetSequence s = .ok () t) :
    t = (s.resetFields.setPc t.pc).withBus t ∧ ReadEffect s.resetFields t := by
  obtain ⟨w, u, h1, h⟩ := Res.bind_eq_ok.1 h
  cases h
  refine ⟨?_, (busRead16_readEffect h1).setPc _⟩
  conv_lhs => rw [busRead16_only h1]
  rfl

end Sys2Proof.Machine
end

