-- ==== Sys2Proof/Laws/PerInstr.lean ====
section
/-! SUPPORT. The layout of every instruction, constructor by constructor: its encoding, where its operand form has one, is one opcode
byte and its operand bytes, as many as the instruction is long, 1 to 3 (spec 30_encoding.md R70, R71, R78). -/

namespace Sys2Proof.Laws.Layout

/-- The encoding of an instruction is its length in bytes, which is 1, 2 or 3, and never reads more bytes than it has. -/
def Statement (i : Instr) : Prop :=
  (∀ bs, encode i = some bs → bs.length = i.length) ∧ 1 ≤ i.length ∧ i.length ≤ 3 ∧ 1 + i.operandReads ≤ i.length

/-- From the opcode and the operand bytes to the statement. -/
theorem of_length {i : Instr} (h : 1 + i.operandBytes.length = i.length) (hl : i.length ≤ 3) (hr : 1 + i.operandReads ≤ i.length) :
    Statement i := by
  refine ⟨fun bs hb => ?_, by omega, hl, hr⟩
  simp only [encode, Option.map_eq_some_iff] at hb
  obtain ⟨op, -, rfl⟩ := hb
  simp only [List.length_cons]; omega

theorem address_bytes_le (a : Address) : a.encode.length = a.bytes ∧ a.bytes ≤ 2 := by
  cases a <;> exact ⟨rfl, Nat.le_of_ble_eq_true rfl⟩

theorem source_bytes_le (s : Source) : s.encode.length = s.bytes ∧ s.bytes ≤ 2 := by
  cases s with
  | imm v => exact ⟨rfl, Nat.le_of_ble_eq_true rfl⟩
  | mem a => exact address_bytes_le a

theorem target_bytes_le (d : Target) : d.encode.length = d.bytes ∧ d.bytes ≤ 2 := by
  cases d with
  | acc => exact ⟨rfl, Nat.le_of_ble_eq_true rfl⟩
  | mem a => exact address_bytes_le a

/-- An instruction with a source, memory or read-modify-write operand. -/
theorem of_operand {i : Instr} {n : Nat} (hb : i.operandBytes.length = n ∧ n ≤ 2) (hr : i.operandReads = n) (hl : i.length = 1 + n) :
    Statement i := of_length (by omega) (by omega) (by omega)

theorem lda (src : Source) : Statement (.lda src) := of_operand (source_bytes_le src) rfl rfl
theorem ldx (src : Source) : Statement (.ldx src) := of_operand (source_bytes_le src) rfl rfl
theorem ldy (src : Source) : Statement (.ldy src) := of_operand (source_bytes_le src) rfl rfl
theorem sta (dst : Address) : Statement (.sta dst) := of_operand (address_bytes_le dst) rfl rfl
theorem stx (dst : Address) : Statement (.stx dst) := of_operand (address_bytes_le dst) rfl rfl
theorem sty (dst : Address) : Statement (.sty dst) := of_operand (address_bytes_le dst) rfl rfl
theorem stz (dst : Address) : Statement (.stz dst) := of_operand (address_bytes_le dst) rfl rfl
theorem adc (src : Source) : Statement (.adc src) := of_operand (source_bytes_le src) rfl rfl
theorem sbc (src : Source) : Statement (.sbc src) := of_operand (source_bytes_le src) rfl rfl
theorem cmp (src : Source) : Statement (.cmp src) := of_operand (source_bytes_le src) rfl rfl
theorem cpx (src : Source) : Statement (.cpx src) := of_operand (source_bytes_le src) rfl rfl
theorem cpy (src : Source) : Statement (.cpy src) := of_operand (source_bytes_le src) rfl rfl
theorem inc (dst : Target) : Statement (.inc dst) := of_operand (target_bytes_le dst) rfl rfl
theorem dec (dst : Target) : Statement (.dec dst) := of_operand (target_bytes_le dst) rfl rfl
theorem inx : Statement .inx := of_length rfl (Nat.le_of_ble_eq_true rfl) (Nat.le_of_ble_eq_true rfl)
theorem iny : Statement .iny := of_length rfl (Nat.le_of_ble_eq_true rfl) (Nat.le_of_ble_eq_true rfl)
theorem dex : Statement .dex := of_length rfl (Nat.le_of_ble_eq_true rfl) (Nat.le_of_ble_eq_true rfl)
theorem dey : Statement .dey := of_length rfl (Nat.le_of_ble_eq_true rfl) (Nat.le_of_ble_eq_true rfl)
theorem and (src : Source) : Statement (.and src) := of_operand (source_bytes_le src) rfl rfl
theorem ora (src : Source) : Statement (.ora src) := of_operand (source_bytes_le src) rfl rfl
theorem eor (src : Source) : Statement (.eor src) := of_operand (source_bytes_le src) rfl rfl
theorem bit (src : Source) : Statement (.bit src) := of_operand (source_bytes_le src) rfl rfl
theorem trb (dst : Address) : Statement (.trb dst) := of_operand (address_bytes_le dst) rfl rfl
theorem tsb (dst : Address) : Statement (.tsb dst) := of_operand (address_bytes_le dst) rfl rfl
theorem rmb0 (z : Byte) : Statement (.rmb0 z) := of_length rfl (Nat.le_of_ble_eq_true rfl) (Nat.le_of_ble_eq_true rfl)
theorem rmb1 (z : Byte) : Statement (.rmb1 z) := of_length rfl (Nat.le_of_ble_eq_true rfl) (Nat.le_of_ble_eq_true rfl)
theorem rmb2 (z : Byte) : Statement (.rmb2 z) := of_length rfl (Nat.le_of_ble_eq_true rfl) (Nat.le_of_ble_eq_true rfl)
theorem rmb3 (z : Byte) : Statement (.rmb3 z) := of_length rfl (Nat.le_of_ble_eq_true rfl) (Nat.le_of_ble_eq_true rfl)
theorem rmb4 (z : Byte) : Statement (.rmb4 z) := of_length rfl (Nat.le_of_ble_eq_true rfl) (Nat.le_of_ble_eq_true rfl)
theorem rmb5 (z : Byte) : Statement (.rmb5 z) := of_length rfl (Nat.le_of_ble_eq_true rfl) (Nat.le_of_ble_eq_true rfl)
theorem rmb6 (z : Byte) : Statement (.rmb6 z) := of_length rfl (Nat.le_of_ble_eq_true rfl) (Nat.le_of_ble_eq_true rfl)
theorem rmb7 (z : Byte) : Statement (.rmb7 z) := of_length rfl (Nat.le_of_ble_eq_true rfl) (Nat.le_of_ble_eq_true rfl)
theorem smb0 (z : Byte) : Statement (.smb0 z) := of_length rfl (Nat.le_of_ble_eq_true rfl) (Nat.le_of_ble_eq_true rfl)
theorem smb1 (z : Byte) : Statement (.smb1 z) := of_length rfl (Nat.le_of_ble_eq_true rfl) (Nat.le_of_ble_eq_true rfl)
theorem smb2 (z : Byte) : Statement (.smb2 z) := of_length rfl (Nat.le_of_ble_eq_true rfl) (Nat.le_of_ble_eq_true rfl)
theorem smb3 (z : Byte) : Statement (.smb3 z) := of_length rfl (Nat.le_of_ble_eq_true rfl) (Nat.le_of_ble_eq_true rfl)
theorem smb4 (z : Byte) : Statement (.smb4 z) := of_length rfl (Nat.le_of_ble_eq_true rfl) (Nat.le_of_ble_eq_true rfl)
theorem smb5 (z : Byte) : Statement (.smb5 z) := of_length rfl (Nat.le_of_ble_eq_true rfl) (Nat.le_of_ble_eq_true rfl)
theorem smb6 (z : Byte) : Statement (.smb6 z) := of_length rfl (Nat.le_of_ble_eq_true rfl) (Nat.le_of_ble_eq_true rfl)
theorem smb7 (z : Byte) : Statement (.smb7 z) := of_length rfl (Nat.le_of_ble_eq_true rfl) (Nat.le_of_ble_eq_true rfl)
theorem asl (dst : Target) : Statement (.asl dst) := of_operand (target_bytes_le dst) rfl rfl
theorem lsr (dst : Target) : Statement (.lsr dst) := of_operand (target_bytes_le dst) rfl rfl
theorem rol (dst : Target) : Statement (.rol dst) := of_operand (target_bytes_le dst) rfl rfl
theorem ror (dst : Target) : Statement (.ror dst) := of_operand (target_bytes_le dst) rfl rfl
theorem bcc (r : Byte) : Statement (.bcc r) := of_length rfl (Nat.le_of_ble_eq_true rfl) (Nat.le_of_ble_eq_true rfl)
theorem bcs (r : Byte) : Statement (.bcs r) := of_length rfl (Nat.le_of_ble_eq_true rfl) (Nat.le_of_ble_eq_true rfl)
theorem beq (r : Byte) : Statement (.beq r) := of_length rfl (Nat.le_of_ble_eq_true rfl) (Nat.le_of_ble_eq_true rfl)
theorem bne (r : Byte) : Statement (.bne r) := of_length rfl (Nat.le_of_ble_eq_true rfl) (Nat.le_of_ble_eq_true rfl)
theorem bmi (r : Byte) : Statement (.bmi r) := of_length rfl (Nat.le_of_ble_eq_true rfl) (Nat.le_of_ble_eq_true rfl)
theorem bpl (r : Byte) : Statement (.bpl r) := of_length rfl (Nat.le_of_ble_eq_true rfl) (Nat.le_of_ble_eq_true rfl)
theorem bvc (r : Byte) : Statement (.bvc r) := of_length rfl (Nat.le_of_ble_eq_true rfl) (Nat.le_of_ble_eq_true rfl)
theorem bvs (r : Byte) : Statement (.bvs r) := of_length rfl (Nat.le_of_ble_eq_true rfl) (Nat.le_of_ble_eq_true rfl)
theorem bra (r : Byte) : Statement (.bra r) := of_length rfl (Nat.le_of_ble_eq_true rfl) (Nat.le_of_ble_eq_true rfl)
theorem bbr0 (z : Byte) (r : Byte) : Statement (.bbr0 z r) := of_length rfl (Nat.le_of_ble_eq_true rfl) (Nat.le_of_ble_eq_true rfl)
theorem bbr1 (z : Byte) (r : Byte) : Statement (.bbr1 z r) := of_length rfl (Nat.le_of_ble_eq_true rfl) (Nat.le_of_ble_eq_true rfl)
theorem bbr2 (z : Byte) (r : Byte) : Statement (.bbr2 z r) := of_length rfl (Nat.le_of_ble_eq_true rfl) (Nat.le_of_ble_eq_true rfl)
theorem bbr3 (z : Byte) (r : Byte) : Statement (.bbr3 z r) := of_length rfl (Nat.le_of_ble_eq_true rfl) (Nat.le_of_ble_eq_true rfl)
theorem bbr4 (z : Byte) (r : Byte) : Statement (.bbr4 z r) := of_length rfl (Nat.le_of_ble_eq_true rfl) (Nat.le_of_ble_eq_true rfl)
theorem bbr5 (z : Byte) (r : Byte) : Statement (.bbr5 z r) := of_length rfl (Nat.le_of_ble_eq_true rfl) (Nat.le_of_ble_eq_true rfl)
theorem bbr6 (z : Byte) (r : Byte) : Statement (.bbr6 z r) := of_length rfl (Nat.le_of_ble_eq_true rfl) (Nat.le_of_ble_eq_true rfl)
theorem bbr7 (z : Byte) (r : Byte) : Statement (.bbr7 z r) := of_length rfl (Nat.le_of_ble_eq_true rfl) (Nat.le_of_ble_eq_true rfl)
theorem bbs0 (z : Byte) (r : Byte) : Statement (.bbs0 z r) := of_length rfl (Nat.le_of_ble_eq_true rfl) (Nat.le_of_ble_eq_true rfl)
theorem bbs1 (z : Byte) (r : Byte) : Statement (.bbs1 z r) := of_length rfl (Nat.le_of_ble_eq_true rfl) (Nat.le_of_ble_eq_true rfl)
theorem bbs2 (z : Byte) (r : Byte) : Statement (.bbs2 z r) := of_length rfl (Nat.le_of_ble_eq_true rfl) (Nat.le_of_ble_eq_true rfl)
theorem bbs3 (z : Byte) (r : Byte) : Statement (.bbs3 z r) := of_length rfl (Nat.le_of_ble_eq_true rfl) (Nat.le_of_ble_eq_true rfl)
theorem bbs4 (z : Byte) (r : Byte) : Statement (.bbs4 z r) := of_length rfl (Nat.le_of_ble_eq_true rfl) (Nat.le_of_ble_eq_true rfl)
theorem bbs5 (z : Byte) (r : Byte) : Statement (.bbs5 z r) := of_length rfl (Nat.le_of_ble_eq_true rfl) (Nat.le_of_ble_eq_true rfl)
theorem bbs6 (z : Byte) (r : Byte) : Statement (.bbs6 z r) := of_length rfl (Nat.le_of_ble_eq_true rfl) (Nat.le_of_ble_eq_true rfl)
theorem bbs7 (z : Byte) (r : Byte) : Statement (.bbs7 z r) := of_length rfl (Nat.le_of_ble_eq_true rfl) (Nat.le_of_ble_eq_true rfl)
theorem jmp (dst : JumpOperand) : Statement (.jmp dst) := by
  cases dst <;> exact of_length rfl (Nat.le_of_ble_eq_true rfl) (Nat.le_of_ble_eq_true rfl)
theorem jsr (w : Addr) : Statement (.jsr w) := of_length rfl (Nat.le_of_ble_eq_true rfl) (Nat.le_of_ble_eq_true rfl)
theorem rts : Statement .rts := of_length rfl (Nat.le_of_ble_eq_true rfl) (Nat.le_of_ble_eq_true rfl)
theorem brk : Statement .brk := of_length rfl (Nat.le_of_ble_eq_true rfl) (Nat.le_of_ble_eq_true rfl)
theorem rti : Statement .rti := of_length rfl (Nat.le_of_ble_eq_true rfl) (Nat.le_of_ble_eq_true rfl)
theorem pha : Statement .pha := of_length rfl (Nat.le_of_ble_eq_true rfl) (Nat.le_of_ble_eq_true rfl)
theorem php : Statement .php := of_length rfl (Nat.le_of_ble_eq_true rfl) (Nat.le_of_ble_eq_true rfl)
theorem phx : Statement .phx := of_length rfl (Nat.le_of_ble_eq_true rfl) (Nat.le_of_ble_eq_true rfl)
theorem phy : Statement .phy := of_length rfl (Nat.le_of_ble_eq_true rfl) (Nat.le_of_ble_eq_true rfl)
theorem pla : Statement .pla := of_length rfl (Nat.le_of_ble_eq_true rfl) (Nat.le_of_ble_eq_true rfl)
theorem plp : Statement .plp := of_length rfl (Nat.le_of_ble_eq_true rfl) (Nat.le_of_ble_eq_true rfl)
theorem plx : Statement .plx := of_length rfl (Nat.le_of_ble_eq_true rfl) (Nat.le_of_ble_eq_true rfl)
theorem ply : Statement .ply := of_length rfl (Nat.le_of_ble_eq_true rfl) (Nat.le_of_ble_eq_true rfl)
theorem tax : Statement .tax := of_length rfl (Nat.le_of_ble_eq_true rfl) (Nat.le_of_ble_eq_true rfl)
theorem tay : Statement .tay := of_length rfl (Nat.le_of_ble_eq_true rfl) (Nat.le_of_ble_eq_true rfl)
theorem txa : Statement .txa := of_length rfl (Nat.le_of_ble_eq_true rfl) (Nat.le_of_ble_eq_true rfl)
theorem tya : Statement .tya := of_length rfl (Nat.le_of_ble_eq_true rfl) (Nat.le_of_ble_eq_true rfl)
theorem tsx : Statement .tsx := of_length rfl (Nat.le_of_ble_eq_true rfl) (Nat.le_of_ble_eq_true rfl)
theorem txs : Statement .txs := of_length rfl (Nat.le_of_ble_eq_true rfl) (Nat.le_of_ble_eq_true rfl)
theorem clc : Statement .clc := of_length rfl (Nat.le_of_ble_eq_true rfl) (Nat.le_of_ble_eq_true rfl)
theorem sec : Statement .sec := of_length rfl (Nat.le_of_ble_eq_true rfl) (Nat.le_of_ble_eq_true rfl)
theorem cli : Statement .cli := of_length rfl (Nat.le_of_ble_eq_true rfl) (Nat.le_of_ble_eq_true rfl)
theorem sei : Statement .sei := of_length rfl (Nat.le_of_ble_eq_true rfl) (Nat.le_of_ble_eq_true rfl)
theorem cld : Statement .cld := of_length rfl (Nat.le_of_ble_eq_true rfl) (Nat.le_of_ble_eq_true rfl)
theorem sed : Statement .sed := of_length rfl (Nat.le_of_ble_eq_true rfl) (Nat.le_of_ble_eq_true rfl)
theorem clv : Statement .clv := of_length rfl (Nat.le_of_ble_eq_true rfl) (Nat.le_of_ble_eq_true rfl)
theorem nop : Statement .nop := of_length rfl (Nat.le_of_ble_eq_true rfl) (Nat.le_of_ble_eq_true rfl)
theorem nop1 (op : Byte) : Statement (.nop1 op) := of_length rfl (Nat.le_of_ble_eq_true rfl) (Nat.le_of_ble_eq_true rfl)
theorem nop2 (op : Byte) : Statement (.nop2 op) := of_length rfl (Nat.le_of_ble_eq_true rfl) (Nat.le_of_ble_eq_true rfl)
theorem nop3 (op : Byte) : Statement (.nop3 op) := of_length rfl (Nat.le_of_ble_eq_true rfl) (Nat.le_of_ble_eq_true rfl)
theorem wai : Statement .wai := of_length rfl (Nat.le_of_ble_eq_true rfl) (Nat.le_of_ble_eq_true rfl)
theorem stp : Statement .stp := of_length rfl (Nat.le_of_ble_eq_true rfl) (Nat.le_of_ble_eq_true rfl)

end Sys2Proof.Laws.Layout
end

