-- ==== Sys2Proof/Laws/Windows.lean ====
section
/-! SUPPORT. What a well-formed configuration says of its windows (spec 00_scope.md R8): they are aligned and apart. -/

namespace Sys2Proof.Machine

theorem inDisk_iff (c : Config) (a : Addr) :
    inDisk c a = true ↔ c.diskAttached = true ∧ c.diskBase.toNat ≤ a.toNat ∧ a.toNat ≤ c.diskBase.toNat + 7 := by
  simp [inDisk, and_assoc]

theorem inVia_iff (c : Config) (a : Addr) :
    inVia c a = true ↔ c.viaPresent = true ∧ c.viaBase.toNat ≤ a.toNat ∧ a.toNat ≤ c.viaBase.toNat + 15 := by
  simp [inVia, and_assoc]

theorem inNull_iff (c : Config) (a : Addr) : inNull c a = true ↔ a ∈ c.nullWindows := by simp [inNull]

theorem wf_aligned {c : Config} (h : c.wf = true) : c.diskBase.toNat % 8 = 0 ∧ c.viaBase.toNat % 16 = 0 := by
  simp only [Config.wf, Bool.and_eq_true, beq_iff_eq] at h
  exact ⟨h.1.1.1.2, h.1.1.2⟩

theorem wf_nodup {c : Config} (h : c.wf = true) : c.windowAddresses.Nodup := by
  simp only [Config.wf, Bool.and_eq_true, decide_eq_true_eq] at h
  exact h.1.1.1.1.2

/-- The three serial addresses differ. -/
theorem wf_serial {c : Config} (h : c.wf = true) :
    c.serialOut ≠ c.serialIn ∧ c.serialOut ≠ c.serialReady ∧ c.serialIn ≠ c.serialReady := by
  have h3 := wf_nodup h
  simp only [Config.windowAddresses, List.nodup_append, List.nodup_cons, List.mem_cons] at h3
  obtain ⟨⟨-, ⟨k2, k3, -⟩, -⟩, -⟩ := h3
  exact ⟨fun e => k2 (by simp [e]), fun e => k2 (by simp [e]), fun e => k3 (by simp [e])⟩

/-- A null address is none of the serial addresses. -/
theorem wf_null {c : Config} (h : c.wf = true) {a : Addr} (ha : a ∈ c.nullWindows) :
    a ≠ c.serialOut ∧ a ≠ c.serialIn ∧ a ≠ c.serialReady := by
  have h3 := wf_nodup h
  simp only [Config.windowAddresses, List.nodup_append, List.mem_cons, List.mem_append, List.mem_map] at h3
  obtain ⟨-, -, k⟩ := h3
  have k := fun x hx => k x (.inr hx) a.toNat ⟨a, ha, rfl⟩
  exact ⟨fun e => k c.serialOut.toNat (by simp) (by rw [e]), fun e => k c.serialIn.toNat (by simp) (by rw [e]),
    fun e => k c.serialReady.toNat (by simp) (by rw [e])⟩

/-- The disk window and the VIA window are apart. -/
theorem wf_disk_via {c : Config} (h : c.wf = true) {a : Addr} (hd : inDisk c a = true) : inVia c a = false := by
  by_contra hv
  simp only [Bool.not_eq_false, inVia_iff] at hv
  rw [inDisk_iff] at hd
  have h3 := wf_nodup h
  simp only [Config.windowAddresses, List.nodup_append] at h3
  obtain ⟨⟨⟨-, -, k⟩, -⟩, -⟩ := h3
  refine k a.toNat ?_ a.toNat ?_ rfl
  · rw [if_pos hd.1, List.mem_map]; exact ⟨a.toNat - c.diskBase.toNat, by simp; omega, by omega⟩
  · rw [if_pos hv.1, List.mem_map]; exact ⟨a.toNat - c.viaBase.toNat, by simp; omega, by omega⟩

/-- A serial or null address is in neither device window. -/
theorem wf_apart {c : Config} (h : c.wf = true) {a : Addr}
    (ha : a = c.serialOut ∨ a = c.serialIn ∨ a = c.serialReady ∨ a ∈ c.nullWindows) : inDisk c a = false ∧ inVia c a = false := by
  have h3 := wf_nodup h
  simp only [Config.windowAddresses, List.nodup_append, List.mem_append, List.mem_cons] at h3
  obtain ⟨⟨-, -, k4⟩, -, k5⟩ := h3
  have key : a.toNat ∈ (if c.diskAttached then (List.range 8).map (c.diskBase.toNat + ·) else []) ∨
      a.toNat ∈ (if c.viaPresent then (List.range 16).map (c.viaBase.toNat + ·) else []) → False := by
    intro m
    rcases ha with e | e | e | e
    · exact k4 a.toNat m c.serialOut.toNat (by simp) (by rw [e])
    · exact k4 a.toNat m c.serialIn.toNat (by simp) (by rw [e])
    · exact k4 a.toNat m c.serialReady.toNat (by simp) (by rw [e])
    · exact k5 a.toNat (.inl m) a.toNat (List.mem_map.2 ⟨a, e, rfl⟩) rfl
  constructor
  · by_contra hd
    simp only [Bool.not_eq_false, inDisk_iff] at hd
    refine key (.inl ?_)
    rw [if_pos hd.1, List.mem_map]; exact ⟨a.toNat - c.diskBase.toNat, by simp; omega, by omega⟩
  · by_contra hv
    simp only [Bool.not_eq_false, inVia_iff] at hv
    refine key (.inr ?_)
    rw [if_pos hv.1, List.mem_map]; exact ⟨a.toNat - c.viaBase.toNat, by simp; omega, by omega⟩

end Sys2Proof.Machine
end

