-- ==== Sys2Proof/Tests/Slice0.lean ====
section
/-! SUPPORT. The model's own tests: ill-formed terms that the checks refuse; one word of each constructor, written out from the
encodings of spec 30_encoding.md R70-R77; single steps with the results of spec 95_test_vectors.md (each test names its vector);
and, for every obligation with hypotheses, a state and operands that meet them. -/

set_option Elab.async false

namespace Sys2Proof.Tests

open Sys2Proof Sys2Proof.Machine

/-! ## Well-formedness -/

/-- Operand forms that no row of the opcode map has (R74). -/
theorem test_wellFormed_refuses_operand_forms :
    (Instr.lda (.mem (.zpy 0x10))).wellFormed true = false ∧ (Instr.ldx (.mem (.zpx 0x10))).wellFormed true = false ∧
    (Instr.ldy (.mem (.izp 0x10))).wellFormed true = false ∧ (Instr.sta (.zpy 0x10)).wellFormed true = false ∧
    (Instr.stx (.absy 0x3000)).wellFormed true = false ∧ (Instr.sty (.absx 0x3000)).wellFormed true = false ∧
    (Instr.stz (.izx 0x10)).wellFormed true = false ∧ (Instr.adc (.mem (.zpy 0x10))).wellFormed true = false ∧
    (Instr.sbc (.mem (.zpy 0x10))).wellFormed true = false ∧ (Instr.cmp (.mem (.zpy 0x10))).wellFormed true = false ∧
    (Instr.cpx (.mem (.zpx 0x10))).wellFormed true = false ∧ (Instr.cpy (.mem (.absx 0x3000))).wellFormed true = false ∧
    (Instr.inc (.mem (.izy 0x10))).wellFormed true = false ∧ (Instr.dec (.mem (.absy 0x3000))).wellFormed true = false ∧
    (Instr.and (.mem (.zpy 0x10))).wellFormed true = false ∧ (Instr.ora (.mem (.zpy 0x10))).wellFormed true = false ∧
    (Instr.eor (.mem (.zpy 0x10))).wellFormed true = false ∧ (Instr.bit (.mem (.izp 0x10))).wellFormed true = false ∧
    (Instr.trb (.zpx 0x10)).wellFormed true = false ∧ (Instr.tsb (.absx 0x3000)).wellFormed true = false ∧
    (Instr.asl (.mem (.zpy 0x10))).wellFormed true = false ∧ (Instr.lsr (.mem (.izp 0x10))).wellFormed true = false ∧
    (Instr.rol (.mem (.absy 0x3000))).wellFormed true = false ∧ (Instr.ror (.mem (.izx 0x10))).wellFormed true = false := by
  decide +kernel

/-- Forms that do not exist when `WDC_UNNAMED_EXT` is false, and undefined opcodes that are none (R76, R77). -/
theorem test_wellFormed_refuses_unnamed_and_defined_opcodes :
    (Instr.inc .acc).wellFormed false = false ∧ (Instr.dec .acc).wellFormed false = false ∧
    (Instr.bit (.imm 0x01)).wellFormed false = false ∧ (Instr.bit (.mem (.zpx 0x10))).wellFormed false = false ∧
    (Instr.rmb0 0x10).wellFormed false = false ∧ (Instr.smb7 0x10).wellFormed false = false ∧
    Instr.wai.wellFormed false = false ∧ Instr.stp.wellFormed false = false ∧
    (Instr.nop1 0xEA).wellFormed true = false ∧ (Instr.nop1 0xCB).wellFormed true = false ∧ (Instr.nop1 0xCB).wellFormed false = true ∧
    (Instr.nop2 0x03).wellFormed true = false ∧ (Instr.nop2 0x89).wellFormed true = false ∧
    (Instr.nop3 0x4C).wellFormed true = false ∧ (Instr.nop3 0x3C).wellFormed true = false := by
  decide +kernel

/-- Configurations that R8 and R7 refuse: overlapping windows, a window past 0xFFFF, unaligned bases, a zero ready value, a short
cycle table; the example configuration is accepted. -/
theorem test_config_wf :
    resetConfig.wf = true ∧ (resetConfig : Config).windowAddresses.length = 27 ∧
    Config.wf { resetConfig with serialOut := 0x8013 } = false ∧ Config.wf { resetConfig with viaBase := 0x8010 } = false ∧
    Config.wf { resetConfig with serialIn := 0x8000 } = false ∧ Config.wf { resetConfig with nullWindows := [0x802F] } = false ∧
    Config.wf { resetConfig with diskBase := 0x8014 } = false ∧ Config.wf { resetConfig with viaBase := 0x8028 } = false ∧
    Config.wf { resetConfig with viaBase := 0xFFF8 } = false ∧
    Config.wf { resetConfig with serialReadyValue := 0x00 } = false ∧ Config.wf { resetConfig with cycles := [7] } = false ∧
    Config.wf { resetConfig with diskBase := 0xFFF8, viaBase := 0xFFE0 } = true := by
  decide +kernel

/-- A ROM image has 1 to 65,536 bytes (R8). -/
theorem test_romWf : romWf [] = false ∧ romWf [0x00] = true ∧ romWf (List.replicate 65537 0x00) = false := by
  refine ⟨rfl, rfl, ?_⟩
  simp only [romWf, List.length_replicate]; decide

/-- Memory that is not canonical: out of order, repeated, a listed zero, past the address space (R40). -/
theorem test_memory_wf :
    ¬ Memory.wf [(2, 0x01), (1, 0x01)] ∧ ¬ Memory.wf [(1, 0x01), (1, 0x02)] ∧ ¬ Memory.wf [(1, 0x00)] ∧
    ¬ Memory.wf [(65536, 0x01)] ∧ Memory.wf [(0, 0x01), (65535, 0x02)] := by
  decide

/-! ## Decoding: one word of each constructor (R71: the opcode is byte 0; R72: a 16-bit operand is low byte first) -/

/-- 41_load_store.md: LDA, LDX, LDY, STA, STX, STY, STZ. -/
theorem test_decode_load_store :
    decodeTableWord 16 0x42A5 = some (.lda (.mem (.zp 0x42))) ∧ decodeTableWord 24 0x1234BE = some (.ldx (.mem (.absy 0x1234))) ∧
    decodeTableWord 24 0x1234AC = some (.ldy (.mem (.abs 0x1234))) ∧ decodeTableWord 24 0x12348D = some (.sta (.abs 0x1234)) ∧
    decodeTableWord 24 0x12348E = some (.stx (.abs 0x1234)) ∧ decodeTableWord 24 0x12348C = some (.sty (.abs 0x1234)) ∧
    decodeTableWord 24 0x12349E = some (.stz (.absx 0x1234)) := by
  decide +kernel

/-- 42_arithmetic.md: ADC, SBC, CMP, CPX, CPY, INC, DEC, INX, INY, DEX, DEY. -/
theorem test_decode_arithmetic :
    decodeTableWord 16 0x4265 = some (.adc (.mem (.zp 0x42))) ∧ decodeTableWord 16 0x42F1 = some (.sbc (.mem (.izy 0x42))) ∧
    decodeTableWord 24 0x1234D9 = some (.cmp (.mem (.absy 0x1234))) ∧ decodeTableWord 16 0x42E4 = some (.cpx (.mem (.zp 0x42))) ∧
    decodeTableWord 16 0x42C4 = some (.cpy (.mem (.zp 0x42))) ∧ decodeTableWord 16 0x42E6 = some (.inc (.mem (.zp 0x42))) ∧
    decodeTableWord 24 0x1234DE = some (.dec (.mem (.absx 0x1234))) ∧ decodeTableWord 8 0xE8 = some .inx ∧
    decodeTableWord 8 0xC8 = some .iny ∧ decodeTableWord 8 0xCA = some .dex ∧ decodeTableWord 8 0x88 = some .dey := by
  decide +kernel

/-- 43_logic_shift.md: AND, ORA, EOR, BIT, TRB, TSB, RMB0, RMB1, RMB2, RMB3, RMB4, RMB5, RMB6, RMB7, SMB0, SMB1, SMB2, SMB3, SMB4, SMB5. -/
theorem test_decode_logic_shift_1 :
    decodeTableWord 16 0x4225 = some (.and (.mem (.zp 0x42))) ∧ decodeTableWord 16 0x4211 = some (.ora (.mem (.izy 0x42))) ∧
    decodeTableWord 24 0x123459 = some (.eor (.mem (.absy 0x1234))) ∧ decodeTableWord 16 0x4224 = some (.bit (.mem (.zp 0x42))) ∧
    decodeTableWord 24 0x12341C = some (.trb (.abs 0x1234)) ∧ decodeTableWord 16 0x4204 = some (.tsb (.zp 0x42)) ∧
    decodeTableWord 16 0x4207 = some (.rmb0 0x42) ∧ decodeTableWord 16 0x4217 = some (.rmb1 0x42) ∧
    decodeTableWord 16 0x4227 = some (.rmb2 0x42) ∧ decodeTableWord 16 0x4237 = some (.rmb3 0x42) ∧
    decodeTableWord 16 0x4247 = some (.rmb4 0x42) ∧ decodeTableWord 16 0x4257 = some (.rmb5 0x42) ∧
    decodeTableWord 16 0x4267 = some (.rmb6 0x42) ∧ decodeTableWord 16 0x4277 = some (.rmb7 0x42) ∧
    decodeTableWord 16 0x4287 = some (.smb0 0x42) ∧ decodeTableWord 16 0x4297 = some (.smb1 0x42) ∧
    decodeTableWord 16 0x42A7 = some (.smb2 0x42) ∧ decodeTableWord 16 0x42B7 = some (.smb3 0x42) ∧
    decodeTableWord 16 0x42C7 = some (.smb4 0x42) ∧ decodeTableWord 16 0x42D7 = some (.smb5 0x42) := by
  decide +kernel

/-- 43_logic_shift.md: SMB6, SMB7, ASL, LSR, ROL, ROR. -/
theorem test_decode_logic_shift_2 :
    decodeTableWord 16 0x42E7 = some (.smb6 0x42) ∧ decodeTableWord 16 0x42F7 = some (.smb7 0x42) ∧
    decodeTableWord 24 0x12340E = some (.asl (.mem (.abs 0x1234))) ∧ decodeTableWord 16 0x4246 = some (.lsr (.mem (.zp 0x42))) ∧
    decodeTableWord 16 0x4236 = some (.rol (.mem (.zpx 0x42))) ∧ decodeTableWord 8 0x6A = some (.ror .acc) := by
  decide +kernel

/-- 44_control.md: BCC, BCS, BEQ, BNE, BMI, BPL, BVC, BVS, BRA, BBR0, BBR1, BBR2, BBR3, BBR4, BBR5, BBR6, BBR7, BBS0, BBS1, BBS2. -/
theorem test_decode_control_1 :
    decodeTableWord 16 0xFD90 = some (.bcc 0xFD) ∧ decodeTableWord 16 0xFDB0 = some (.bcs 0xFD) ∧
    decodeTableWord 16 0xFDF0 = some (.beq 0xFD) ∧ decodeTableWord 16 0xFDD0 = some (.bne 0xFD) ∧
    decodeTableWord 16 0xFD30 = some (.bmi 0xFD) ∧ decodeTableWord 16 0xFD10 = some (.bpl 0xFD) ∧
    decodeTableWord 16 0xFD50 = some (.bvc 0xFD) ∧ decodeTableWord 16 0xFD70 = some (.bvs 0xFD) ∧
    decodeTableWord 16 0xFD80 = some (.bra 0xFD) ∧ decodeTableWord 24 0xFD420F = some (.bbr0 0x42 0xFD) ∧
    decodeTableWord 24 0xFD421F = some (.bbr1 0x42 0xFD) ∧ decodeTableWord 24 0xFD422F = some (.bbr2 0x42 0xFD) ∧
    decodeTableWord 24 0xFD423F = some (.bbr3 0x42 0xFD) ∧ decodeTableWord 24 0xFD424F = some (.bbr4 0x42 0xFD) ∧
    decodeTableWord 24 0xFD425F = some (.bbr5 0x42 0xFD) ∧ decodeTableWord 24 0xFD426F = some (.bbr6 0x42 0xFD) ∧
    decodeTableWord 24 0xFD427F = some (.bbr7 0x42 0xFD) ∧ decodeTableWord 24 0xFD428F = some (.bbs0 0x42 0xFD) ∧
    decodeTableWord 24 0xFD429F = some (.bbs1 0x42 0xFD) ∧ decodeTableWord 24 0xFD42AF = some (.bbs2 0x42 0xFD) := by
  decide +kernel

/-- 44_control.md: BBS3, BBS4, BBS5, BBS6, BBS7, JMP, JSR, RTS, BRK, RTI. -/
theorem test_decode_control_2 :
    decodeTableWord 24 0xFD42BF = some (.bbs3 0x42 0xFD) ∧ decodeTableWord 24 0xFD42CF = some (.bbs4 0x42 0xFD) ∧
    decodeTableWord 24 0xFD42DF = some (.bbs5 0x42 0xFD) ∧ decodeTableWord 24 0xFD42EF = some (.bbs6 0x42 0xFD) ∧
    decodeTableWord 24 0xFD42FF = some (.bbs7 0x42 0xFD) ∧ decodeTableWord 24 0x12346C = some (.jmp (.ind 0x1234)) ∧
    decodeTableWord 24 0x123420 = some (.jsr 0x1234) ∧ decodeTableWord 8 0x60 = some .rts ∧
    decodeTableWord 16 0x4200 = some .brk ∧ decodeTableWord 8 0x40 = some .rti := by
  decide +kernel

/-- 45_stack_transfer_misc.md: PHA, PHP, PHX, PHY, PLA, PLP, PLX, PLY, TAX, TAY, TXA, TYA, TSX, TXS, CLC, SEC, CLI, SEI, CLD, SED. -/
theorem test_decode_stack_transfer_misc_1 :
    decodeTableWord 8 0x48 = some .pha ∧ decodeTableWord 8 0x08 = some .php ∧ decodeTableWord 8 0xDA = some .phx ∧
    decodeTableWord 8 0x5A = some .phy ∧ decodeTableWord 8 0x68 = some .pla ∧ decodeTableWord 8 0x28 = some .plp ∧
    decodeTableWord 8 0xFA = some .plx ∧ decodeTableWord 8 0x7A = some .ply ∧ decodeTableWord 8 0xAA = some .tax ∧
    decodeTableWord 8 0xA8 = some .tay ∧ decodeTableWord 8 0x8A = some .txa ∧ decodeTableWord 8 0x98 = some .tya ∧
    decodeTableWord 8 0xBA = some .tsx ∧ decodeTableWord 8 0x9A = some .txs ∧ decodeTableWord 8 0x18 = some .clc ∧
    decodeTableWord 8 0x38 = some .sec ∧ decodeTableWord 8 0x58 = some .cli ∧ decodeTableWord 8 0x78 = some .sei ∧
    decodeTableWord 8 0xD8 = some .cld ∧ decodeTableWord 8 0xF8 = some .sed := by
  decide +kernel

/-- 45_stack_transfer_misc.md: CLV, NOP, NOP1, NOP2, NOP3, WAI, STP. -/
theorem test_decode_stack_transfer_misc_2 :
    decodeTableWord 8 0xB8 = some .clv ∧ decodeTableWord 8 0xEA = some .nop ∧ decodeTableWord 8 0x3B = some (.nop1 0x3B) ∧
    decodeTableWord 16 0x4254 = some (.nop2 0x54) ∧ decodeTableWord 24 0x1234DC = some (.nop3 0xDC) ∧
    decodeTableWord 8 0xCB = some .wai ∧ decodeTableWord 8 0xDB = some .stp := by
  decide +kernel

/-- With `WDC_UNNAMED_EXT` false the unnamed opcodes are no-operations of their length (R77). -/
theorem test_decode_unnamed :
    decode false [0x1A] = .ok (.nop1 0x1A, []) ∧ decode false [0x37, 0x20] = .ok (.nop2 0x37, []) ∧
    decode false [0x3C, 0x00, 0x30] = .ok (.nop3 0x3C, []) ∧ decode false [0xDB, 0xEA] = .ok (.nop1 0xDB, [0xEA]) := ⟨rfl, rfl, rfl, rfl⟩

/-- The decoder refuses by name only a list that ends inside an instruction. -/
theorem test_decode_truncated :
    decode true [] = .error .noBytes ∧ decode true [0xA9] = .error .truncated ∧ decode true [0x20, 0x34] = .error .truncated :=
  ⟨rfl, rfl, rfl⟩

/-! ## Single steps: the vectors of 95_test_vectors.md section 2, one instruction each -/

/-- A machine in configuration `cfg` with these registers and bytes of storage (95 section 0). -/
def start (cfg : Config) (a x y sp p : Byte) (pc : Addr) (mem : List (Addr × Byte)) : State :=
  mem.foldl (fun s c => s.storeByte c.1 c.2) { State.reset with cfg := cfg, a := a, x := x, y := y, sp := sp, p := p, pc := pc }

/-- One step from `s` answers a next state with these registers and bytes of storage. -/
def ends (s : State) (a x y sp p : Byte) (pc : Addr) (mem : List (Addr × Byte)) : Bool :=
  match step s with
  | .next t => t.a == a && t.x == x && t.y == y && t.sp == sp && t.p == p && t.pc == pc && mem.all fun c => t.byteAt c.1 == c.2
  | .fault _ => false
  | .refused _ => false

/-- V13: LDA #0 sets Z, forces bits 4, 5. -/
theorem test_lda_V13 :
    ends (start resetConfig 0x00 0x00 0x00 0xFF 0x00 0x0400 [(0x0400, 0xA9), (0x0401, 0x00)])
      0x00 0x00 0x00 0xFF 0x32 0x0402 [] = true := by
  decide +kernel

/-- V5: IZX pointer at 0xFF wraps to 0x00 (D7). -/
theorem test_lda_V5 :
    ends (start resetConfig 0x00 0x01 0x00 0xFF 0x30 0x0400 [(0x0400, 0xA1), (0x0401, 0xFE), (0x00FF, 0x00), (0x0000, 0x30), (0x0100, 0x40), (0x3000, 0x11), (0x4000, 0x22)])
      0x11 0x01 0x00 0xFF 0x30 0x0402 [] = true := by
  decide +kernel

/-- V2: ZPY wraps in page 0. -/
theorem test_ldx_V2 :
    ends (start resetConfig 0x00 0x00 0x20 0xFF 0x30 0x0400 [(0x0400, 0xB6), (0x0401, 0xF0), (0x0010, 0x77)])
      0x00 0x77 0x20 0xFF 0x30 0x0402 [] = true := by
  decide +kernel

/-- V16: LDY absolute,X. -/
theorem test_ldy_V16 :
    ends (start resetConfig 0x00 0x01 0x00 0xFF 0x30 0x0400 [(0x0400, 0xBC), (0x0401, 0x00), (0x0402, 0x30), (0x3001, 0x00)])
      0x00 0x01 0x00 0xFF 0x32 0x0403 [] = true := by
  decide +kernel

/-- V21: STA (zp),Y. -/
theorem test_sta_V21 :
    ends (start resetConfig 0x42 0x00 0x03 0xFF 0x30 0x0400 [(0x0400, 0x91), (0x0401, 0x40), (0x0040, 0x00), (0x0041, 0x30)])
      0x42 0x00 0x03 0xFF 0x30 0x0402 [(0x3003, 0x42)] = true := by
  decide +kernel

/-- V18: STX zero page,Y wraps. -/
theorem test_stx_V18 :
    ends (start resetConfig 0x00 0xAB 0x02 0xFF 0x30 0x0400 [(0x0400, 0x96), (0x0401, 0xFF)])
      0x00 0xAB 0x02 0xFF 0x30 0x0402 [(0x0001, 0xAB)] = true := by
  decide +kernel

/-- V19: STY zero page. -/
theorem test_sty_V19 :
    ends (start resetConfig 0x00 0x00 0x5C 0xFF 0x30 0x0400 [(0x0400, 0x84), (0x0401, 0x20)])
      0x00 0x00 0x5C 0xFF 0x30 0x0402 [(0x0020, 0x5C)] = true := by
  decide +kernel

/-- V20: STZ absolute,X. -/
theorem test_stz_V20 :
    ends (start resetConfig 0x00 0x05 0x00 0xFF 0x30 0x0400 [(0x0400, 0x9E), (0x0401, 0x00), (0x0402, 0x30), (0x3005, 0xFF)])
      0x00 0x05 0x00 0xFF 0x30 0x0403 [(0x3005, 0x00)] = true := by
  decide +kernel

/-- V25: ADC signed overflow. -/
theorem test_adc_V25 :
    ends (start resetConfig 0x7F 0x00 0x00 0xFF 0x30 0x0400 [(0x0400, 0x69), (0x0401, 0x01)])
      0x80 0x00 0x00 0xFF 0xF0 0x0402 [] = true := by
  decide +kernel

/-- V36: ADC 0x58 + 0x46 + 1. -/
theorem test_adc_V36 :
    ends (start resetConfig 0x58 0x00 0x00 0xFF 0x39 0x0400 [(0x0400, 0x69), (0x0401, 0x46)])
      0x05 0x00 0x00 0xFF 0x79 0x0402 [] = true := by
  decide +kernel

/-- V31: SBC signed overflow. -/
theorem test_sbc_V31 :
    ends (start resetConfig 0x80 0x00 0x00 0xFF 0x31 0x0400 [(0x0400, 0xE9), (0x0401, 0x01)])
      0x7F 0x00 0x00 0xFF 0x71 0x0402 [] = true := by
  decide +kernel

/-- V45: SBC 0x12 - 0x21 (borrow out). -/
theorem test_sbc_V45 :
    ends (start resetConfig 0x12 0x00 0x00 0xFF 0x39 0x0400 [(0x0400, 0xE9), (0x0401, 0x21)])
      0x91 0x00 0x00 0xFF 0xB8 0x0402 [] = true := by
  decide +kernel

/-- V50: CMP less. -/
theorem test_cmp_V50 :
    ends (start resetConfig 0x40 0x00 0x00 0xFF 0x30 0x0400 [(0x0400, 0xC9), (0x0401, 0x50)])
      0x40 0x00 0x00 0xFF 0xB0 0x0402 [] = true := by
  decide +kernel

/-- V52: CMP 0xFF vs 0x00, silicon. -/
theorem test_cmp_V52 :
    ends (start { resetConfig with cmpFlags := .silicon } 0xFF 0x00 0x00 0xFF 0x30 0x0400 [(0x0400, 0xC9), (0x0401, 0x00)])
      0xFF 0x00 0x00 0xFF 0xB1 0x0402 [] = true := by
  decide +kernel

/-- V57: CPX immediate. -/
theorem test_cpx_V57 :
    ends (start resetConfig 0x00 0x10 0x00 0xFF 0x30 0x0400 [(0x0400, 0xE0), (0x0401, 0x20)])
      0x00 0x10 0x00 0xFF 0xB0 0x0402 [] = true := by
  decide +kernel

/-- V58: CPY zero page. -/
theorem test_cpy_V58 :
    ends (start resetConfig 0x00 0x00 0x30 0xFF 0x30 0x0400 [(0x0400, 0xC4), (0x0401, 0x10), (0x0010, 0x20)])
      0x00 0x00 0x30 0xFF 0x31 0x0402 [] = true := by
  decide +kernel

/-- V60: INC 0x7F gives N. -/
theorem test_inc_V60 :
    ends (start resetConfig 0x00 0x00 0x00 0xFF 0x30 0x0400 [(0x0400, 0xEE), (0x0401, 0x00), (0x0402, 0x30), (0x3000, 0x7F)])
      0x00 0x00 0x00 0xFF 0xB0 0x0403 [(0x3000, 0x80)] = true := by
  decide +kernel

/-- V61: INC A. -/
theorem test_inc_V61 :
    ends (start resetConfig 0x41 0x00 0x00 0xFF 0x30 0x0400 [(0x0400, 0x1A)])
      0x42 0x00 0x00 0xFF 0x30 0x0401 [] = true := by
  decide +kernel

/-- V62: DEC A wraps. -/
theorem test_dec_V62 :
    ends (start resetConfig 0x00 0x00 0x00 0xFF 0x30 0x0400 [(0x0400, 0x3A)])
      0xFF 0x00 0x00 0xFF 0xB0 0x0401 [] = true := by
  decide +kernel

/-- V63: DEC absolute,X. -/
theorem test_dec_V63 :
    ends (start resetConfig 0x00 0x02 0x00 0xFF 0x30 0x0400 [(0x0400, 0xDE), (0x0401, 0x00), (0x0402, 0x30), (0x3002, 0x01)])
      0x00 0x02 0x00 0xFF 0x32 0x0403 [(0x3002, 0x00)] = true := by
  decide +kernel

/-- V65: INX wraps. -/
theorem test_inx_V65 :
    ends (start resetConfig 0x00 0xFF 0x00 0xFF 0x30 0x0400 [(0x0400, 0xE8)])
      0x00 0x00 0x00 0xFF 0x32 0x0401 [] = true := by
  decide +kernel

/-- V66: INY. -/
theorem test_iny_V66 :
    ends (start resetConfig 0x00 0x00 0x7F 0xFF 0x30 0x0400 [(0x0400, 0xC8)])
      0x00 0x00 0x80 0xFF 0xB0 0x0401 [] = true := by
  decide +kernel

/-- V67: DEX to 0. -/
theorem test_dex_V67 :
    ends (start resetConfig 0x00 0x01 0x00 0xFF 0x30 0x0400 [(0x0400, 0xCA)])
      0x00 0x00 0x00 0xFF 0x32 0x0401 [] = true := by
  decide +kernel

/-- V68: DEY wraps. -/
theorem test_dey_V68 :
    ends (start resetConfig 0x00 0x00 0x00 0xFF 0x30 0x0400 [(0x0400, 0x88)])
      0x00 0x00 0xFF 0xFF 0xB0 0x0401 [] = true := by
  decide +kernel

/-- V69: AND. -/
theorem test_and_V69 :
    ends (start resetConfig 0xF0 0x00 0x00 0xFF 0x30 0x0400 [(0x0400, 0x29), (0x0401, 0x3C)])
      0x30 0x00 0x00 0xFF 0x30 0x0402 [] = true := by
  decide +kernel

/-- V71: ORA. -/
theorem test_ora_V71 :
    ends (start resetConfig 0x01 0x00 0x00 0xFF 0x30 0x0400 [(0x0400, 0x09), (0x0401, 0x80)])
      0x81 0x00 0x00 0xFF 0xB0 0x0402 [] = true := by
  decide +kernel

/-- V73: EOR. -/
theorem test_eor_V73 :
    ends (start resetConfig 0xFF 0x00 0x00 0xFF 0x30 0x0400 [(0x0400, 0x49), (0x0401, 0x0F)])
      0xF0 0x00 0x00 0xFF 0xB0 0x0402 [] = true := by
  decide +kernel

/-- V74: BIT zero page. -/
theorem test_bit_V74 :
    ends (start resetConfig 0x01 0x00 0x00 0xFF 0x30 0x0400 [(0x0400, 0x24), (0x0401, 0x10), (0x0010, 0xC0)])
      0x01 0x00 0x00 0xFF 0xF2 0x0402 [] = true := by
  decide +kernel

/-- V77: BIT #imm, BIT_IMM_FLAGS = wdc. -/
theorem test_bit_V77 :
    ends (start { resetConfig with bitImmFlags := .wdc } 0x00 0x00 0x00 0xFF 0x30 0x0400 [(0x0400, 0x89), (0x0401, 0xC0)])
      0x00 0x00 0x00 0xFF 0x32 0x0402 [] = true := by
  decide +kernel

/-- V79: TRB. -/
theorem test_trb_V79 :
    ends (start resetConfig 0x0F 0x00 0x00 0xFF 0x30 0x0400 [(0x0400, 0x14), (0x0401, 0x10), (0x0010, 0x3C)])
      0x0F 0x00 0x00 0xFF 0x30 0x0402 [(0x0010, 0x30)] = true := by
  decide +kernel

/-- V81: TSB. -/
theorem test_tsb_V81 :
    ends (start resetConfig 0x0F 0x00 0x00 0xFF 0x30 0x0400 [(0x0400, 0x0C), (0x0401, 0x00), (0x0402, 0x30), (0x3000, 0x30)])
      0x0F 0x00 0x00 0xFF 0x32 0x0403 [(0x3000, 0x3F)] = true := by
  decide +kernel

/-- V82: RMB3. -/
theorem test_rmb3_V82 :
    ends (start resetConfig 0x00 0x00 0x00 0xFF 0x30 0x0400 [(0x0400, 0x37), (0x0401, 0x20), (0x0020, 0xFF)])
      0x00 0x00 0x00 0xFF 0x30 0x0402 [(0x0020, 0xF7)] = true := by
  decide +kernel

/-- V84: RMB3 with WDC_UNNAMED_EXT = false is NOP2. -/
theorem test_rmb3_V84 :
    ends (start { resetConfig with wdcUnnamedExt := false } 0x00 0x00 0x00 0xFF 0x30 0x0400 [(0x0400, 0x37), (0x0401, 0x20), (0x0020, 0xFF)])
      0x00 0x00 0x00 0xFF 0x30 0x0402 [(0x0020, 0xFF)] = true := by
  decide +kernel

/-- V83: SMB7. -/
theorem test_smb7_V83 :
    ends (start resetConfig 0x00 0x00 0x00 0xFF 0x30 0x0400 [(0x0400, 0xF7), (0x0401, 0x20), (0x0020, 0x00)])
      0x00 0x00 0x00 0xFF 0x30 0x0402 [(0x0020, 0x80)] = true := by
  decide +kernel

/-- V86: ASL A of 0x80. -/
theorem test_asl_V86 :
    ends (start resetConfig 0x80 0x00 0x00 0xFF 0x30 0x0400 [(0x0400, 0x0A)])
      0x00 0x00 0x00 0xFF 0x33 0x0401 [] = true := by
  decide +kernel

/-- V88: LSR zero page to 0. -/
theorem test_lsr_V88 :
    ends (start resetConfig 0x00 0x00 0x00 0xFF 0x30 0x0400 [(0x0400, 0x46), (0x0401, 0x10), (0x0010, 0x01)])
      0x00 0x00 0x00 0xFF 0x33 0x0402 [(0x0010, 0x00)] = true := by
  decide +kernel

/-- V89: ROL A with C = 1. -/
theorem test_rol_V89 :
    ends (start resetConfig 0x80 0x00 0x00 0xFF 0x31 0x0400 [(0x0400, 0x2A)])
      0x01 0x00 0x00 0xFF 0x31 0x0401 [] = true := by
  decide +kernel

/-- V91: ROR A with C = 1. -/
theorem test_ror_V91 :
    ends (start resetConfig 0x01 0x00 0x00 0xFF 0x31 0x0400 [(0x0400, 0x6A)])
      0x80 0x00 0x00 0xFF 0xB1 0x0401 [] = true := by
  decide +kernel

/-- V92: ROR absolute,X with C = 0. -/
theorem test_ror_V92 :
    ends (start resetConfig 0x00 0x01 0x00 0xFF 0x30 0x0400 [(0x0400, 0x7E), (0x0401, 0x00), (0x0402, 0x30), (0x3001, 0x01)])
      0x00 0x01 0x00 0xFF 0x33 0x0403 [(0x3001, 0x00)] = true := by
  decide +kernel

/-- V97: BCC taken. -/
theorem test_bcc_V97 :
    ends (start resetConfig 0x00 0x00 0x00 0xFF 0x30 0x1000 [(0x1000, 0x90), (0x1001, 0x05)])
      0x00 0x00 0x00 0xFF 0x30 0x1007 [] = true := by
  decide +kernel

/-- V98: BCS not taken. -/
theorem test_bcs_V98 :
    ends (start resetConfig 0x00 0x00 0x00 0xFF 0x30 0x1000 [(0x1000, 0xB0), (0x1001, 0x05)])
      0x00 0x00 0x00 0xFF 0x30 0x1002 [] = true := by
  decide +kernel

/-- V96: BEQ taken forward. -/
theorem test_beq_V96 :
    ends (start resetConfig 0x00 0x00 0x00 0xFF 0x32 0x1000 [(0x1000, 0xF0), (0x1001, 0x10)])
      0x00 0x00 0x00 0xFF 0x32 0x1012 [] = true := by
  decide +kernel

/-- V94: BNE taken backward, offset 0xFE (document §8). -/
theorem test_bne_V94 :
    ends (start resetConfig 0x00 0x00 0x00 0xFF 0x30 0x1000 [(0x1000, 0xD0), (0x1001, 0xFE)])
      0x00 0x00 0x00 0xFF 0x30 0x1000 [] = true := by
  decide +kernel

/-- V99: BMI taken, offset 0x80 (-128). -/
theorem test_bmi_V99 :
    ends (start resetConfig 0x00 0x00 0x00 0xFF 0xB0 0x1000 [(0x1000, 0x30), (0x1001, 0x80)])
      0x00 0x00 0x00 0xFF 0xB0 0x0F82 [] = true := by
  decide +kernel

/-- V100: BPL taken, offset 0x7F (+127). -/
theorem test_bpl_V100 :
    ends (start resetConfig 0x00 0x00 0x00 0xFF 0x30 0x1000 [(0x1000, 0x10), (0x1001, 0x7F)])
      0x00 0x00 0x00 0xFF 0x30 0x1081 [] = true := by
  decide +kernel

/-- V101: BVC not taken. -/
theorem test_bvc_V101 :
    ends (start resetConfig 0x00 0x00 0x00 0xFF 0x70 0x1000 [(0x1000, 0x50), (0x1001, 0x05)])
      0x00 0x00 0x00 0xFF 0x70 0x1002 [] = true := by
  decide +kernel

/-- V102: BVS taken. -/
theorem test_bvs_V102 :
    ends (start resetConfig 0x00 0x00 0x00 0xFF 0x70 0x1000 [(0x1000, 0x70), (0x1001, 0x05)])
      0x00 0x00 0x00 0xFF 0x70 0x1007 [] = true := by
  decide +kernel

/-- V103: BRA wraps past 0xFFFF. -/
theorem test_bra_V103 :
    ends (start resetConfig 0x00 0x00 0x00 0xFF 0x30 0xFFF8 [(0xFFF8, 0x80), (0xFFF9, 0x10)])
      0x00 0x00 0x00 0xFF 0x30 0x000A [] = true := by
  decide +kernel

/-- V105: BBR0 taken. -/
theorem test_bbr0_V105 :
    ends (start resetConfig 0x00 0x00 0x00 0xFF 0x30 0x3000 [(0x3000, 0x0F), (0x3001, 0x10), (0x3002, 0x05), (0x0010, 0x00)])
      0x00 0x00 0x00 0xFF 0x30 0x3008 [] = true := by
  decide +kernel

/-- V107: BBS7 taken to itself. -/
theorem test_bbs7_V107 :
    ends (start resetConfig 0x00 0x00 0x00 0xFF 0x30 0x3000 [(0x3000, 0xFF), (0x3001, 0x10), (0x3002, 0xFD), (0x0010, 0x80)])
      0x00 0x00 0x00 0xFF 0x30 0x3000 [] = true := by
  decide +kernel

/-- V108: BBS3 not taken. -/
theorem test_bbs3_V108 :
    ends (start resetConfig 0x00 0x00 0x00 0xFF 0x30 0x3000 [(0x3000, 0xBF), (0x3001, 0x10), (0x3002, 0x05), (0x0010, 0xF7)])
      0x00 0x00 0x00 0xFF 0x30 0x3003 [] = true := by
  decide +kernel

/-- V9: JMP (abs) pointer at 0x12FF, no page bug (D8). -/
theorem test_jmp_V9 :
    ends (start resetConfig 0x00 0x00 0x00 0xFF 0x30 0x0400 [(0x0400, 0x6C), (0x0401, 0xFF), (0x0402, 0x12), (0x12FF, 0x00), (0x1300, 0x90), (0x1200, 0x80)])
      0x00 0x00 0x00 0xFF 0x30 0x9000 [] = true := by
  decide +kernel

/-- V10: JMP (abs,X). -/
theorem test_jmp_V10 :
    ends (start resetConfig 0x00 0x02 0x00 0xFF 0x30 0x0400 [(0x0400, 0x7C), (0x0401, 0x00), (0x0402, 0x20), (0x2002, 0x00), (0x2003, 0x90)])
      0x00 0x02 0x00 0xFF 0x30 0x9000 [] = true := by
  decide +kernel

/-- V112: JSR at SP = 0x00 wraps the stack. -/
theorem test_jsr_V112 :
    ends (start resetConfig 0x00 0x00 0x00 0x00 0x30 0x0800 [(0x0800, 0x20), (0x0801, 0x00), (0x0802, 0x50)])
      0x00 0x00 0x00 0xFE 0x30 0x5000 [(0x0100, 0x08), (0x01FF, 0x02)] = true := by
  decide +kernel

/-- V111: RTS after that JSR (document §8: resumes at $0803). -/
theorem test_rts_V111 :
    ends (start resetConfig 0x00 0x00 0x00 0xFD 0x30 0x1234 [(0x1234, 0x60), (0x01FE, 0x02), (0x01FF, 0x08)])
      0x00 0x00 0x00 0xFF 0x30 0x0803 [] = true := by
  decide +kernel

/-- V113: BRK pushes PC+2 and P|0x30, sets I, keeps D. -/
theorem test_brk_V113 :
    ends (start resetConfig 0x00 0x00 0x00 0xFF 0x38 0x0300 [(0x0300, 0x00), (0x0301, 0xEA), (0xFFFE, 0x00), (0xFFFF, 0xE0)])
      0x00 0x00 0x00 0xFC 0x3C 0xE000 [(0x01FF, 0x03), (0x01FE, 0x02), (0x01FD, 0x38)] = true := by
  decide +kernel

/-- V116: RTI pulling P = 0x00. -/
theorem test_rti_V116 :
    ends (start resetConfig 0x00 0x00 0x00 0xFC 0x34 0xE000 [(0xE000, 0x40), (0x01FD, 0x00), (0x01FE, 0x02), (0x01FF, 0x03)])
      0x00 0x00 0x00 0xFF 0x00 0x0302 [] = true := by
  decide +kernel

/-- V119: PHA at SP = 0x00. -/
theorem test_pha_V119 :
    ends (start resetConfig 0x11 0x00 0x00 0x00 0x30 0x0400 [(0x0400, 0x48)])
      0x11 0x00 0x00 0xFF 0x30 0x0401 [(0x0100, 0x11)] = true := by
  decide +kernel

/-- V121: PHP forces bits 4, 5 in the copy only. -/
theorem test_php_V121 :
    ends (start resetConfig 0x00 0x00 0x00 0xFF 0x01 0x0400 [(0x0400, 0x08)])
      0x00 0x00 0x00 0xFE 0x01 0x0401 [(0x01FF, 0x31)] = true := by
  decide +kernel

/-- V123: PHX. -/
theorem test_phx_V123 :
    ends (start resetConfig 0x00 0x07 0x00 0xF0 0x30 0x0400 [(0x0400, 0xDA)])
      0x00 0x07 0x00 0xEF 0x30 0x0401 [(0x01F0, 0x07)] = true := by
  decide +kernel

/-- V124: PHY. -/
theorem test_phy_V124 :
    ends (start resetConfig 0x00 0x00 0x09 0x00 0x30 0x0400 [(0x0400, 0x5A)])
      0x00 0x00 0x09 0xFF 0x30 0x0401 [(0x0100, 0x09)] = true := by
  decide +kernel

/-- V120: PLA at SP = 0xFF reads 0x0100. -/
theorem test_pla_V120 :
    ends (start resetConfig 0x00 0x00 0x00 0xFF 0x30 0x0400 [(0x0400, 0x68), (0x0100, 0x00)])
      0x00 0x00 0x00 0x00 0x32 0x0401 [] = true := by
  decide +kernel

/-- V122: PLP verbatim. -/
theorem test_plp_V122 :
    ends (start resetConfig 0x00 0x00 0x00 0xFE 0x30 0x0400 [(0x0400, 0x28), (0x01FF, 0xCF)])
      0x00 0x00 0x00 0xFF 0xCF 0x0401 [] = true := by
  decide +kernel

/-- V125: PLX. -/
theorem test_plx_V125 :
    ends (start resetConfig 0x00 0x00 0x00 0xFE 0x30 0x0400 [(0x0400, 0xFA), (0x01FF, 0x80)])
      0x00 0x80 0x00 0xFF 0xB0 0x0401 [] = true := by
  decide +kernel

/-- V126: PLY. -/
theorem test_ply_V126 :
    ends (start resetConfig 0x00 0x00 0x00 0xFE 0x30 0x0400 [(0x0400, 0x7A), (0x01FF, 0x00)])
      0x00 0x00 0x00 0xFF 0x32 0x0401 [] = true := by
  decide +kernel

/-- V127: TAX. -/
theorem test_tax_V127 :
    ends (start resetConfig 0x80 0x00 0x00 0xFF 0x30 0x0400 [(0x0400, 0xAA)])
      0x80 0x80 0x00 0xFF 0xB0 0x0401 [] = true := by
  decide +kernel

/-- V128: TAY. -/
theorem test_tay_V128 :
    ends (start resetConfig 0x00 0x00 0x00 0xFF 0x30 0x0400 [(0x0400, 0xA8)])
      0x00 0x00 0x00 0xFF 0x32 0x0401 [] = true := by
  decide +kernel

/-- V129: TXA. -/
theorem test_txa_V129 :
    ends (start resetConfig 0x00 0x01 0x00 0xFF 0x30 0x0400 [(0x0400, 0x8A)])
      0x01 0x01 0x00 0xFF 0x30 0x0401 [] = true := by
  decide +kernel

/-- V130: TYA. -/
theorem test_tya_V130 :
    ends (start resetConfig 0x00 0x00 0xFF 0xFF 0x30 0x0400 [(0x0400, 0x98)])
      0xFF 0x00 0xFF 0xFF 0xB0 0x0401 [] = true := by
  decide +kernel

/-- V131: TSX. -/
theorem test_tsx_V131 :
    ends (start resetConfig 0x00 0x00 0x00 0xFD 0x30 0x0400 [(0x0400, 0xBA)])
      0x00 0xFD 0x00 0xFD 0xB0 0x0401 [] = true := by
  decide +kernel

/-- V132: TXS changes no flag. -/
theorem test_txs_V132 :
    ends (start resetConfig 0x00 0x00 0x00 0xFF 0x30 0x0400 [(0x0400, 0x9A)])
      0x00 0x00 0x00 0x00 0x30 0x0401 [] = true := by
  decide +kernel

/-- V133: CLC. -/
theorem test_clc_V133 :
    ends (start resetConfig 0x00 0x00 0x00 0xFF 0x31 0x0400 [(0x0400, 0x18)])
      0x00 0x00 0x00 0xFF 0x30 0x0401 [] = true := by
  decide +kernel

/-- V140: flag op keeps bits 4, 5 as they are. -/
theorem test_sec_V140 :
    ends (start resetConfig 0x00 0x00 0x00 0xFF 0x00 0x0400 [(0x0400, 0x38)])
      0x00 0x00 0x00 0xFF 0x01 0x0401 [] = true := by
  decide +kernel

/-- V135: CLI. -/
theorem test_cli_V135 :
    ends (start resetConfig 0x00 0x00 0x00 0xFF 0x34 0x0400 [(0x0400, 0x58)])
      0x00 0x00 0x00 0xFF 0x30 0x0401 [] = true := by
  decide +kernel

/-- V136: SEI. -/
theorem test_sei_V136 :
    ends (start resetConfig 0x00 0x00 0x00 0xFF 0x30 0x0400 [(0x0400, 0x78)])
      0x00 0x00 0x00 0xFF 0x34 0x0401 [] = true := by
  decide +kernel

/-- V137: CLD. -/
theorem test_cld_V137 :
    ends (start resetConfig 0x00 0x00 0x00 0xFF 0x38 0x0400 [(0x0400, 0xD8)])
      0x00 0x00 0x00 0xFF 0x30 0x0401 [] = true := by
  decide +kernel

/-- V138: SED. -/
theorem test_sed_V138 :
    ends (start resetConfig 0x00 0x00 0x00 0xFF 0x30 0x0400 [(0x0400, 0xF8)])
      0x00 0x00 0x00 0xFF 0x38 0x0401 [] = true := by
  decide +kernel

/-- V139: CLV. -/
theorem test_clv_V139 :
    ends (start resetConfig 0x00 0x00 0x00 0xFF 0x70 0x0400 [(0x0400, 0xB8)])
      0x00 0x00 0x00 0xFF 0x30 0x0401 [] = true := by
  decide +kernel

/-- V141: NOP. -/
theorem test_nop_V141 :
    ends (start resetConfig 0x00 0x00 0x00 0xFF 0xFF 0x0400 [(0x0400, 0xEA)])
      0x00 0x00 0x00 0xFF 0xFF 0x0401 [] = true := by
  decide +kernel

/-- V142: NOP1 0x03. -/
theorem test_nop1_V142 :
    ends (start resetConfig 0x00 0x00 0x00 0xFF 0x30 0x0400 [(0x0400, 0x03)])
      0x00 0x00 0x00 0xFF 0x30 0x0401 [] = true := by
  decide +kernel

/-- V147: INC A with WDC_UNNAMED_EXT = false is NOP1. -/
theorem test_nop1_V147 :
    ends (start { resetConfig with wdcUnnamedExt := false } 0x41 0x00 0x00 0xFF 0x30 0x0400 [(0x0400, 0x1A)])
      0x41 0x00 0x00 0xFF 0x30 0x0401 [] = true := by
  decide +kernel

/-- V143: NOP2 0x02 reads nothing beyond the opcode. -/
theorem test_nop2_V143 :
    ends (start resetConfig 0x00 0x00 0x00 0xFF 0x30 0x0400 [(0x0400, 0x02), (0x0401, 0xFF)])
      0x00 0x00 0x00 0xFF 0x30 0x0402 [] = true := by
  decide +kernel

/-- V145: NOP3 0x5C. -/
theorem test_nop3_V145 :
    ends (start resetConfig 0x00 0x00 0x00 0xFF 0x30 0x0400 [(0x0400, 0x5C), (0x0401, 0x34), (0x0402, 0x12)])
      0x00 0x00 0x00 0xFF 0x30 0x0403 [] = true := by
  decide +kernel

/-- V148: BIT abs,X with WDC_UNNAMED_EXT = false is NOP3. -/
theorem test_nop3_V148 :
    ends (start { resetConfig with wdcUnnamedExt := false } 0x00 0x00 0x00 0xFF 0x30 0x0400 [(0x0400, 0x3C), (0x0401, 0x00), (0x0402, 0x30), (0x3000, 0xC0)])
      0x00 0x00 0x00 0xFF 0x30 0x0403 [] = true := by
  decide +kernel

/-- V149: WAI. -/
theorem test_wai_V149 :
    ends (start resetConfig 0x00 0x00 0x00 0xFF 0x30 0x0400 [(0x0400, 0xCB)])
      0x00 0x00 0x00 0xFF 0x30 0x0401 [] = true := by
  decide +kernel

/-- V150: STP. -/
theorem test_stp_V150 :
    ends (start resetConfig 0x00 0x00 0x00 0xFF 0x30 0x0400 [(0x0400, 0xDB)])
      0x00 0x00 0x00 0xFF 0x30 0x0401 [] = true := by
  decide +kernel


/-! ## Interrupts, waits, faults, reset and devices: the scenarios of 95_test_vectors.md sections 4 to 9 -/

/-- X1, X2: the entry pushes the PC and P with bit 4 clear and bit 5 set, sets I, charges 7 cycles and fetches no opcode. -/
theorem test_interrupt_entry_X1_X2 :
    (match step { start resetConfig 0x00 0x00 0x00 0xFF 0x30 0x0400 [(0xFFFF, 0xE0)] with irqLine := true, currentInstruction := 0xEA } with
      | .next t => t.sp == 0xFC && t.p == 0x34 && t.pc == 0xE000 && t.byteAt 0x01FF == 0x04 && t.byteAt 0x01FE == 0x00 &&
          t.byteAt 0x01FD == 0x20 && t.cycleClock == 7 && t.currentInstruction == 0xEA
      | .fault _ => false
      | .refused _ => false) = true ∧
    ends { start resetConfig 0x00 0x00 0x00 0xFF 0xCB 0x0400 [] with irqLine := true }
      0x00 0x00 0x00 0xFC 0xCF 0x0000 [(0x01FD, 0xEB)] = true := by
  decide +kernel

/-- X3: with I set the instruction executes. -/
theorem test_interrupt_masked_X3 :
    ends { start resetConfig 0x00 0x00 0x00 0xFF 0x34 0x0400 [(0x0400, 0xE8)] with irqLine := true }
      0x00 0x01 0x00 0xFF 0x34 0x0401 [] = true := by
  decide +kernel

/-- X4, X5: a waiting machine with the line 0 only ticks; with the line 1 it runs on where I is set and enters where it is clear. -/
theorem test_wai_wakes_X4_X5 :
    ends { start resetConfig 0x00 0x00 0x00 0xFF 0x34 0x0401 [(0x0401, 0xE8)] with cpuMode := .waiting }
      0x00 0x00 0x00 0xFF 0x34 0x0401 [] = true ∧
    ends { start resetConfig 0x00 0x00 0x00 0xFF 0x34 0x0401 [(0x0401, 0xE8)] with cpuMode := .waiting, irqLine := true }
      0x00 0x01 0x00 0xFF 0x34 0x0402 [] = true ∧
    ends { start resetConfig 0x00 0x00 0x00 0xFF 0x30 0x0401 [(0xFFFF, 0xE0)] with cpuMode := .waiting, irqLine := true }
      0x00 0x00 0x00 0xFC 0x34 0xE000 [(0x01FF, 0x04), (0x01FE, 0x01)] = true := by
  decide +kernel

/-- X9: PHA while SP is unwritten faults. -/
theorem test_unwritten_sp_X9 :
    (match step { start resetConfig 0x77 0x00 0x00 0x00 0x30 0x0400 [(0x0400, 0x48)] with spHeld := false } with
      | .fault .unwrittenSP => true
      | .fault _ => false
      | .next _ => false
      | .refused _ => false) = true := by
  decide +kernel

/-- A disk of `n` bytes, filled as 95 section 8 says. -/
def diskOf (n : Nat) : Disk :=
  { State.reset.disk with store := (List.range n).map fun i => BitVec.ofNat 8 (5 * i + 0x80 * (i / 512)) }

/-- The value an access gives, where it gives one. -/
def valueOf (r : Res Byte) : Option Byte :=
  match r with
  | .ok v _ => some v
  | .fault _ => none

/-- X11: a data-port read past the store faults. -/
theorem test_disk_out_of_range_X11 :
    (match busRead 0x8010 { State.reset with disk := { diskOf 1024 with lba0 := 2, command := .read } } with
      | .fault .diskOutOfRange => true
      | .fault _ => false
      | .ok _ _ => false) = true := by
  decide +kernel

/-- X14, X16: the registers after power-on with a 4,096-byte ROM whose reset vector is 0xF000. -/
theorem test_power_on_X14_X16 :
    (match powerOn resetConfig (List.replicate 4092 0xEA ++ [0x00, 0xF0, 0x00, 0x00]) [] with
      | .next t => t.a == 0 && t.x == 0 && t.y == 0 && t.p == 0x30 && t.pc == 0xF000 && t.sp == 0xFD && t.spHeld && t.cycleClock == 0 &&
          t.byteAt 0xF000 == 0xEA && t.byteAt 0xEFFF == 0x00
      | .fault _ => false
      | .refused _ => false) = true := by
  decide +kernel

/-- X15: a Reset command leaves the cycle clock and the timer, and clears the disk command. -/
theorem test_reset_command_X15 :
    (match applyCommand .reset { start { resetConfig with spReset := none } 0x05 0x00 0x00 0x10 0xFF 0x0400 [(0xFFFD, 0xF0)] with
        cycleClock := 99, disk := { State.reset.disk with command := .read, offset := 7 }, timer := { State.reset.timer with t1c := 5 } } with
      | .ok _ t => t.a == 0 && t.p == 0x30 && !t.spHeld && t.pc == 0xF000 && t.cycleClock == 99 && t.disk.command == .none &&
          t.disk.offset == 0 && t.timer.t1c == 5
      | .fault _ => false) = true := by
  decide +kernel

/-- X20: the top nibble of LBA3 is masked off, and the block follows. -/
theorem test_disk_lba_X20 :
    valueOf ((diskWrite 3 0x01 { State.reset with disk := diskOf 1024 }).bind fun _ s1 =>
      (diskWrite 6 0xF0 s1).bind fun _ s2 => (diskWrite 7 0x20 s2).bind fun _ s3 => diskRead 0 s3) = some 0x80 := by
  decide +kernel

/-- X18, X22, X23: the status after a known command, after an unknown one, and with no store. -/
theorem test_disk_status_X18_X22_X23 :
    valueOf ((diskWrite 7 0x20 { State.reset with disk := diskOf 512 }).bind fun _ s1 => diskRead 7 s1) = some 0x58 ∧
    valueOf ((diskWrite 7 0x55 { State.reset with disk := diskOf 512 }).bind fun _ s1 => diskRead 7 s1) = some 0x50 ∧
    valueOf ((diskWrite 7 0x20 State.reset).bind fun _ s1 => diskRead 7 s1) = some 0x00 := by
  decide +kernel

/-- X26, X27: the flag register reads its flag with the any-enabled bit and clears; the enable register reads bit 7 as 1. -/
theorem test_timer_flags_X26_X27 :
    valueOf (timerRead 0xD { State.reset with timer := { State.reset.timer with ifr := 0x40, ier := 0x40, asserted := true } }) = some 0xC0 ∧
    valueOf ((timerRead 0xD { State.reset with timer := { State.reset.timer with ifr := 0x40, ier := 0x40 } }).bind fun _ s =>
      timerRead 0xD s) = some 0x00 ∧
    valueOf (timerRead 0xE { State.reset with timer := State.reset.timer.write 0xE 0xC0 }) = some 0xC0 := by
  decide +kernel

/-- X28, X29, X30: free run reloads, a clear enable raises nothing, timer 2 stops. -/
theorem test_timer_ticks_X28_X29_X30 :
    (ticks 3 (Timer.write 5 0 (Timer.write 4 3 (Timer.write 0xE 0xC0 (Timer.write 0xB 0x40 State.reset.timer))))).ifr = 0x40 ∧
    (ticks 3 (Timer.write 5 0 (Timer.write 4 3 (Timer.write 0xE 0xC0 (Timer.write 0xB 0x40 State.reset.timer))))).t1c = 3 ∧
    (ticks 2 (Timer.write 5 0 (Timer.write 4 2 State.reset.timer))).ifr = 0x00 ∧
    (ticks 2 (Timer.write 5 0 (Timer.write 4 2 State.reset.timer))).t1run = false ∧
    (ticks 2 (Timer.write 9 0 (Timer.write 8 2 (Timer.write 0xE 0xA0 State.reset.timer)))).ifrValue = 0xA0 ∧
    (ticks 2 (Timer.write 9 0 (Timer.write 8 2 (Timer.write 0xE 0xA0 State.reset.timer)))).t2run = false := by
  decide +kernel

/-- X32: clearing an enable bit does not lower `asserted` before the next tick. -/
theorem test_timer_enable_clear_X32 :
    (Timer.write 0xE 0x40 (ticks 1 (Timer.write 0xE 0xC0 (Timer.write 5 0 (Timer.write 4 1 State.reset.timer))))).asserted = true ∧
    (ticks 1 (Timer.write 0xE 0x40 (ticks 1 (Timer.write 0xE 0xC0 (Timer.write 5 0 (Timer.write 4 1 State.reset.timer)))))).asserted = false := by
  decide +kernel

/-- X34: two writes of the output port are two events. -/
theorem test_serial_output_X34 :
    (match (busWrite 0x8000 0x41 State.reset).bind fun _ s => busWrite 0x8000 0x41 s with
      | .ok _ t => t.events == [.outputByte 0x41, .outputByte 0x41] && t.byteAt 0x8000 == 0x41
      | .fault _ => false) = true := by
  decide +kernel

/-- R260: an output byte is emitted whether or not the receiver is there, and is delivered only if it is. -/
theorem test_event_to_a_receiver_that_is_gone :
    (match busWrite 0x8000 0x41 { State.reset with receiver := .gone }, busWrite 0x8000 0x41 { State.reset with receiver := .kept } with
      | .ok _ t, .ok _ u => t.events == [.outputByte 0x41] && t.delivered == [] && u.delivered == [.outputByte 0x41]
      | _, _ => false) = true := by
  decide +kernel

/-- X35, X36: an input byte is read once; a character above 0xFF changes nothing. -/
theorem test_serial_input_X35_X36 :
    valueOf (busRead 0x8002 (State.reset.sendInput 'Z')) = some 0x01 ∧ valueOf (busRead 0x8001 (State.reset.sendInput 'Z')) = some 0x5A ∧
    valueOf ((busRead 0x8001 (State.reset.sendInput 'Z')).bind fun _ s => busRead 0x8002 s) = some 0x00 ∧
    State.reset.sendInput (Char.ofNat 0x100) = State.reset := by
  decide +kernel

/-- R265: a command sent for the second boundary from now acts there and not before. -/
theorem test_input_at_a_later_boundary :
    ((match runSteps 1 (State.reset.send 1 (.sendInputByte 'Z')) with
      | .next t => t.byteAt 0x8001 == 0x00
      | .fault _ => false
      | .refused _ => false) &&
     (match runSteps 2 (State.reset.send 1 (.sendInputByte 'Z')) with
      | .next t => t.byteAt 0x8001 == 0x5A && t.byteAt 0x8002 == 0x01
      | .fault _ => false
      | .refused _ => false)) = true := by
  decide +kernel

/-- R32: the clock wraps at its width; here a width of 3 bits and the two cycles of NOP. -/
theorem test_clock_wraps_at_its_width :
    (match step { start { resetConfig with clockWidth := 3 } 0 0 0 0xFF 0x30 0x0400 [(0x0400, 0xEA)] with cycleClock := 7 } with
      | .next t => t.cycleClock == 1
      | .fault _ => false
      | .refused _ => false) = true := by
  decide +kernel

/-! ## Witnesses: for every statement with hypotheses, a state and operands that meet them, clause by clause at boundary values -/

/-- A machine with null windows at 0x9000 and 0xFFFF. -/
def nullState : State := { State.reset with cfg := { resetConfig with nullWindows := [0x9000, 0xFFFF] } }

/-- A machine with neither disk nor VIA attached. -/
def bareState : State := { State.reset with cfg := { resetConfig with diskAttached := false, viaPresent := false } }

/-- A machine whose stores of 1,024 bytes has an active command at this offset. -/
def diskState (c : DiskCommand) (offset : Nat) : State :=
  { State.reset with disk := { diskOf 1024 with command := c, offset := offset } }

theorem witness_EncodeThenDecodeIsIdentity :
    (Instr.lda (.imm 0x00)).wellFormed true = true ∧ (Instr.bbs7 0xFF 0xFF).wellFormed true = true ∧
    (Instr.nop1 0xDB).wellFormed false = true ∧ (Instr.jmp (.aix 0xFFFF)).wellFormed false = true := by
  decide +kernel

theorem witness_UnnamedOpcodesFollowTheirParameter :
    ∃ op : Byte, op.toNat % 16 ≠ 7 ∧ op ∉ ([0x89, 0x34, 0x3C, 0x1A, 0x3A, 0xCB, 0xDB] : List Byte) := ⟨0xFF, by decide, by decide⟩

theorem witness_BusReadReturnsTheMostRecentWrite :
    isPlain State.reset.cfg 0x0000 = true ∧ isPlain State.reset.cfg 0xFFFF = true ∧ isPlain State.reset.cfg 0x800F = true ∧
    isPlain State.reset.cfg 0x8018 = true := by
  decide +kernel

/-- The hypotheses of both window statements: the windows of `resetConfig` at their first and last addresses, a null window, and
the addresses beside the windows. -/
theorem witness_BusReadAnswersByWindow_and_BusWriteGoesToItsWindow :
    State.reset.cfg.wf = true ∧ State.reset.cfg.diskAttached = true ∧ State.reset.cfg.viaPresent = true ∧
    (0x8010 : Addr).toNat = State.reset.cfg.diskBase.toNat + 0 ∧ (0x8017 : Addr).toNat = State.reset.cfg.diskBase.toNat + 7 ∧
    (0x8020 : Addr).toNat = State.reset.cfg.viaBase.toNat + 0 ∧ (0x802F : Addr).toNat = State.reset.cfg.viaBase.toNat + 15 ∧
    (0x8001 : Addr) = State.reset.cfg.serialIn ∧ (0x8000 : Addr) = State.reset.cfg.serialOut ∧ (0x8002 : Addr) = State.reset.cfg.serialReady ∧
    nullState.cfg.wf = true ∧ (0x9000 : Addr) ∈ nullState.cfg.nullWindows ∧ (0xFFFF : Addr) ∈ nullState.cfg.nullWindows ∧
    bareState.cfg.wf = true ∧ bareState.cfg.diskAttached = false ∧ bareState.cfg.viaPresent = false ∧
    ∀ a ∈ ([0x800F, 0x8018, 0x801F, 0x8030] : List Addr),
      ¬(State.reset.cfg.diskBase.toNat ≤ a.toNat ∧ a.toNat ≤ State.reset.cfg.diskBase.toNat + 7) ∧
      ¬(State.reset.cfg.viaBase.toNat ≤ a.toNat ∧ a.toNat ≤ State.reset.cfg.viaBase.toNat + 15) ∧
      a ≠ State.reset.cfg.serialOut ∧ a ≠ State.reset.cfg.serialIn ∧ a ≠ State.reset.cfg.serialReady ∧ a ∉ State.reset.cfg.nullWindows := by
  refine ⟨by decide +kernel, rfl, rfl, rfl, rfl, rfl, rfl, rfl, rfl, rfl, by decide +kernel, by decide, by decide, by decide +kernel, rfl, rfl, ?_⟩
  intro a ha
  simp only [List.mem_cons, List.not_mem_nil, or_false] at ha
  rcases ha with rfl | rfl | rfl | rfl <;> decide

theorem witness_WordReadsAreLittleEndianAndWrap :
    (∃ s1 s2 lo hi, (0x0000 : Addr).toNat = ((0xFFFF : Addr).toNat + 1) % 65536 ∧ busRead 0xFFFF State.reset = .ok lo s1 ∧
      busRead 0x0000 s1 = .ok hi s2) ∧
    (∃ s1 s2 lo hi, (0x00FF : Addr).toNat = (0xFF : Byte).toNat ∧ (0x0000 : Addr).toNat = ((0xFF : Byte).toNat + 1) % 256 ∧
      busRead 0x00FF State.reset = .ok lo s1 ∧ busRead 0x0000 s1 = .ok hi s2) :=
  ⟨⟨_, _, _, _, rfl, rfl, rfl⟩, ⟨_, _, _, _, rfl, rfl, rfl, rfl⟩⟩

/-- SP at 0x00, where a push wraps to 0xFF, and at 0xFF, where a pull wraps to 0x00. -/
theorem witness_PushAndPullMoveThroughPageOne :
    (∃ s1, ({ State.reset with sp := 0x00 } : State).spHeld = true ∧ (0x0100 : Addr).toNat = 0x0100 + (0x00 : Byte).toNat ∧
      busWrite 0x0100 0x42 { State.reset with sp := 0x00 } = .ok () s1) ∧
    (∃ v s1, ({ State.reset with sp := 0xFF } : State).spHeld = true ∧ (0x0100 : Addr).toNat = 0x0100 + ((0xFF : Byte).toNat + 1) % 256 ∧
      busRead 0x0100 { State.reset with sp := BitVec.ofNat 8 ((0xFF : Byte).toNat + 1), spHeld := true } = .ok v s1) :=
  ⟨⟨_, rfl, rfl, rfl⟩, ⟨_, _, rfl, rfl, rfl⟩⟩

/-- The hypotheses of `PushedWordsReadBackLittleEndian`, `RoundTripsRestoreTheRegisters` and `RtiAfterBrkRestoresFlagsAndResumes`,
with SP at 0x00, 0x01 and 0xFF. -/
theorem witness_PushedWords_RoundTrips_RtiAfterBrk :
    State.reset.spHeld = true ∧ isPlain State.reset.cfg 0xFFFE = true ∧ isPlain State.reset.cfg 0xFFFF = true ∧
    ∀ sp ∈ ([0x00, 0x01, 0xFF] : List Byte), isPlain State.reset.cfg (stackAddr sp) = true ∧
      isPlain State.reset.cfg (stackAddr (sp - 1)) = true ∧ isPlain State.reset.cfg (stackAddr (sp - 2)) = true := by
  decide +kernel

theorem witness_AddressingModesComputeTheirAddress :
    (∃ ea t, busRead16zp (0xFF + State.reset.x) State.reset = .ok ea t) ∧ (∃ ea t, busRead16zp 0xFF State.reset = .ok ea t) ∧
    Address.zp 0x00 ∈ [Address.zp 0x00, .zpx 0x00, .zpy 0x00, .izx 0x00, .izy 0x00, .izp 0x00] ∧
    Address.absy 0xFFFF ∈ [Address.abs 0xFFFF, .absx 0xFFFF, .absy 0xFFFF] :=
  ⟨⟨_, _, rfl⟩, ⟨_, _, rfl⟩, by decide, by decide⟩

/-- Fetches that read no operand byte, one, and two (the last from 0xFFFF on, wrapping). -/
theorem witness_FetchReadsTheOpcodeThenTheOperandBytes :
    (∃ op s1, busRead State.reset.pc State.reset = .ok op s1 ∧ operandReadsOf State.reset.cfg.wdcUnnamedExt op = 0) ∧
    (∃ s op s1 b1 s2, busRead s.pc s = .ok op s1 ∧ operandReadsOf s.cfg.wdcUnnamedExt op = 1 ∧
      busRead (s.pc + 1) { s1 with currentInstruction := op } = .ok b1 s2) ∧
    (∃ s op s1 b1 s2 b2 s3, s.pc = 0xFFFF ∧ busRead s.pc s = .ok op s1 ∧ operandReadsOf s.cfg.wdcUnnamedExt op = 2 ∧
      busRead (s.pc + 1) { s1 with currentInstruction := op } = .ok b1 s2 ∧ busRead (s.pc + 2) s2 = .ok b2 s3) :=
  ⟨⟨_, _, rfl, rfl⟩,
   ⟨{ State.reset with mem := [(0, 0xA9)] }, _, _, _, _, rfl, rfl, rfl⟩,
   ⟨{ State.reset with pc := 0xFFFF, mem := [(65535, 0xAD)] }, _, _, _, _, _, _, rfl, rfl, rfl, rfl, rfl⟩⟩

/-- The hypothesis of the statements over a source operand: an immediate byte, plain storage at its last byte, a device register,
and an indirect form. -/
theorem witness_readSource :
    (∃ m s1, readSource (.imm 0xFF) State.reset = .ok m s1) ∧ (∃ m s1, readSource (.mem (.abs 0xFFFF)) State.reset = .ok m s1) ∧
    (∃ m s1, readSource (.mem (.abs 0x8001)) State.reset = .ok m s1) ∧ (∃ m s1, readSource (.mem (.izy 0xFF)) State.reset = .ok m s1) :=
  ⟨⟨_, _, rfl⟩, ⟨_, _, rfl⟩, ⟨_, _, rfl⟩, ⟨_, _, rfl⟩⟩

theorem witness_LoadsWriteTheirRegisterAndNZ : ∃ m s1, readSource (.mem (.izx 0xFF)) State.reset = .ok m s1 := ⟨_, _, rfl⟩

theorem witness_StoresWriteTheirByteAndNoFlag :
    ∃ ea s1 s2 s3 s4 s5, effectiveAddress (.absx 0xFFFF) State.reset = .ok ea s1 ∧ busWrite ea State.reset.a s1 = .ok () s2 ∧
      busWrite ea State.reset.x s1 = .ok () s3 ∧ busWrite ea State.reset.y s1 = .ok () s4 ∧ busWrite ea 0x00 s1 = .ok () s5 :=
  ⟨_, _, _, _, _, _, rfl, rfl, rfl, rfl, rfl⟩

theorem witness_DecimalAddersAreBcdArithmetic : ∃ ah al mh ml : Nat, ah < 10 ∧ al < 10 ∧ mh < 10 ∧ ml < 10 :=
  ⟨9, 9, 9, 9, by decide, by decide, by decide, by decide⟩

/-- Invalid nibbles: the steps of R122 on 0x0F + 0x0F + 1 (U3: below 26 the two readings agree, so the sum 31 gives 0x15), and those of
R123 on 0x00 - 0x0F. -/
theorem test_decimal_invalid_nibbles :
    (addDec 0x0F 0x0F true).value = 0x15 ∧ (addDec 0x0F 0x0F true).carry = false ∧ (subDec 0x00 0x0F true).value = 0x8B ∧
    (subDec 0x00 0x0F true).carry = false := by
  decide +kernel

/-- Binary; decimal by the rule; decimal under `DEC_V = draw`. -/
theorem witness_AdcAndSbcWriteTheAdderResult :
    (∃ m s1, readSource (.imm 0x99) State.reset = .ok m s1 ∧ getFlag .decimal State.reset.p = false) ∧
    (∃ s m s1, readSource (.imm 0x99) s = .ok m s1 ∧ getFlag .decimal s.p = true ∧ s.cfg.decV = .rule) ∧
    (∃ s m s1, readSource (.imm 0x99) s = .ok m s1 ∧ getFlag .decimal s.p = true ∧ s.cfg.decV = .draw) :=
  ⟨⟨_, _, rfl, rfl⟩, ⟨{ State.reset with p := 0x38 }, _, _, rfl, rfl, rfl⟩,
   ⟨{ State.reset with p := 0x38, cfg := { resetConfig with decV := .draw } }, _, _, rfl, rfl, rfl⟩⟩

theorem witness_CompareHelperSetsNegativeZeroCarry :
    (0xFF : Byte) = 0xFF ∧ (0x01 : Byte).toNat > (0x00 : Byte).toNat ∧ (0xFF : Byte).toNat > (0x00 : Byte).toNat ∧
    (0x00 : Byte).toNat < (0xFF : Byte).toNat ∧ (0x7F : Byte).toNat < (0x80 : Byte).toNat := by
  decide

theorem witness_ComparesChangeFlagsOnly : ∃ m s1, readSource (.mem (.zp 0xFF)) State.reset = .ok m s1 := ⟨_, _, rfl⟩

/-- Memory operands at the last byte of page 0 and of the address space: the byte wraps to 0x00 and to 0xFF. -/
theorem witness_IncrementsAndDecrementsStepByOne :
    (∃ s ea s1 m s2 s3, effectiveAddress (.zp 0xFF) s = .ok ea s1 ∧ busRead ea s1 = .ok m s2 ∧ m = 0xFF ∧
      busWrite ea (m + 1) s2 = .ok () s3) ∧
    (∃ ea s1 m s2 s3, effectiveAddress (.abs 0xFFFF) State.reset = .ok ea s1 ∧ busRead ea s1 = .ok m s2 ∧ m = 0x00 ∧
      busWrite ea (m - 1) s2 = .ok () s3) :=
  ⟨⟨{ State.reset with mem := [(255, 0xFF)] }, _, _, _, _, _, rfl, rfl, rfl, rfl⟩, ⟨_, _, _, _, _, rfl, rfl, rfl, rfl⟩⟩

theorem witness_LogicOperationsCombineWithA : ∃ m s1, readSource (.mem (.absy 0xFFFF)) State.reset = .ok m s1 := ⟨_, _, rfl⟩

/-- The immediate form under each setting, and a memory form under `wdc`. -/
theorem witness_BitTestsWithoutChangingA :
    (∃ s m s1, readSource (.imm 0xC0) s = .ok m s1 ∧ (∃ v, Source.imm 0xC0 = .imm v) ∧ s.cfg.bitImmFlags = .wdc) ∧
    (∃ m s1, readSource (.imm 0xC0) State.reset = .ok m s1 ∧ State.reset.cfg.bitImmFlags = .uniform) ∧
    (∃ s m s1, readSource (.mem (.absx 0xFFFF)) s = .ok m s1 ∧ (∃ d, Source.mem (.absx 0xFFFF) = .mem d) ∧ s.cfg.bitImmFlags = .wdc) :=
  ⟨⟨{ State.reset with cfg := { resetConfig with bitImmFlags := .wdc } }, _, _, rfl, ⟨_, rfl⟩, rfl⟩, ⟨_, _, rfl, rfl⟩,
   ⟨{ State.reset with cfg := { resetConfig with bitImmFlags := .wdc } }, _, _, rfl, ⟨_, rfl⟩, rfl⟩⟩

theorem witness_TrbAndTsbTestThenChangeMemory :
    ∃ ea m s1 s2 s3 s4, effectiveAddress (.abs 0xFFFF) State.reset = .ok ea s1 ∧ busRead ea s1 = .ok m s2 ∧
      busWrite ea (m &&& ~~~State.reset.a) s2 = .ok () s3 ∧ busWrite ea (m ||| State.reset.a) s2 = .ok () s4 :=
  ⟨_, _, _, _, _, _, rfl, rfl, rfl, rfl⟩

theorem witness_RmbAndSmbWriteOneBit :
    ∃ m s1 s2 s3, busRead (zext16 0xFF) State.reset = .ok m s1 ∧ busWrite (zext16 0xFF) (m &&& ~~~(1#8 <<< (0 : Fin 8).val)) s1 = .ok () s2 ∧
      busWrite (zext16 0xFF) (m ||| 1#8 <<< (7 : Fin 8).val) s1 = .ok () s3 :=
  ⟨_, _, _, _, rfl, rfl, rfl⟩

theorem witness_ShiftsMoveOneBitThroughCarry :
    ∃ ea s1 m s2 s3 s4 s5 s6, effectiveAddress (.zpx 0xFF) State.reset = .ok ea s1 ∧ busRead ea s1 = .ok m s2 ∧
      busWrite ea (m <<< 1) s2 = .ok () s3 ∧ busWrite ea (m >>> 1) s2 = .ok () s4 ∧
      busWrite ea (m <<< 1 ||| (if getFlag .carry State.reset.p then 1 else 0)) s2 = .ok () s5 ∧
      busWrite ea (m >>> 1 ||| (if getFlag .carry State.reset.p then 0x80 else 0)) s2 = .ok () s6 :=
  ⟨_, _, _, _, _, _, _, _, rfl, rfl, rfl, rfl, rfl, rfl⟩

/-- Both ends of the offset range. -/
theorem witness_BranchesAddTheSignedOffset :
    (∃ taken notTaken : Addr, taken = BitVec.ofInt 16 (State.reset.pc.toNat + 2 + (0x80 : Byte).toInt) ∧ notTaken = State.reset.pc + 2) ∧
    (∃ taken notTaken : Addr, taken = BitVec.ofInt 16 (State.reset.pc.toNat + 2 + (0x7F : Byte).toInt) ∧ notTaken = State.reset.pc + 2) :=
  ⟨⟨_, _, rfl, rfl⟩, ⟨_, _, rfl, rfl⟩⟩

theorem witness_BitBranchesTestOneBit :
    ∃ m s1 taken notTaken, busRead (zext16 0xFF) State.reset = .ok m s1 ∧
      taken = BitVec.ofInt 16 (State.reset.pc.toNat + 3 + (0x80 : Byte).toInt) ∧ notTaken = State.reset.pc + 3 :=
  ⟨_, _, _, _, rfl, rfl, rfl⟩

/-- Pointers at 0x12FF, across a page, and at 0xFFFF, across the end of the address space. -/
theorem witness_JumpGoesToItsTarget :
    (∃ lo s1 hi s2, busRead 0x12FF State.reset = .ok lo s1 ∧ busRead (0x12FF + 1) s1 = .ok hi s2) ∧
    (∃ s ptr lo s1 hi s2, ptr = 0xFF00 + s.x.setWidth 16 ∧ ptr = 0xFFFF ∧ busRead ptr s = .ok lo s1 ∧ busRead (ptr + 1) s1 = .ok hi s2) :=
  ⟨⟨_, _, _, _, rfl, rfl⟩, ⟨{ State.reset with x := 0xFF }, _, _, _, _, _, rfl, rfl, rfl, rfl⟩⟩

theorem witness_JsrAndRtsUseThePushedReturnAddress :
    (∃ ret s1 s2, ret = State.reset.pc + 2 ∧ push (ret.extractLsb' 8 8) State.reset = .ok () s1 ∧ push (ret.extractLsb' 0 8) s1 = .ok () s2) ∧
    (∃ lo s1 hi s2, pull State.reset = .ok lo s1 ∧ pull s1 = .ok hi s2) :=
  ⟨⟨_, _, _, rfl, rfl, rfl⟩, ⟨_, _, _, _, rfl, rfl⟩⟩

theorem witness_BrkAndRtiEnterAndLeaveTheHandler :
    (∃ ret s1 s2 s3 lo s4 hi s5, ret = State.reset.pc + 2 ∧ push (ret.extractLsb' 8 8) State.reset = .ok () s1 ∧
      push (ret.extractLsb' 0 8) s1 = .ok () s2 ∧ push (State.reset.p ||| 0x30) s2 = .ok () s3 ∧
      busRead 0xFFFE { s3 with p := putFlag .interrupt true State.reset.p } = .ok lo s4 ∧ busRead 0xFFFF s4 = .ok hi s5) ∧
    (∃ p s1 lo s2 hi s3, pull State.reset = .ok p s1 ∧ pull { s1 with p := p } = .ok lo s2 ∧ pull s2 = .ok hi s3) :=
  ⟨⟨_, _, _, _, _, _, _, _, rfl, rfl, rfl, rfl, rfl, rfl⟩, ⟨_, _, _, _, _, _, rfl, rfl, rfl⟩⟩

theorem witness_PushesAndPullsMoveOneByte :
    (∃ s1 s2 s3 s4, push State.reset.a State.reset = .ok () s1 ∧ push (State.reset.p ||| 0x30) State.reset = .ok () s2 ∧
      push State.reset.x State.reset = .ok () s3 ∧ push State.reset.y State.reset = .ok () s4) ∧
    (∃ v s1, pull State.reset = .ok v s1) :=
  ⟨⟨_, _, _, _, rfl, rfl, rfl, rfl⟩, ⟨_, _, rfl⟩⟩

theorem witness_TransfersCopyOneRegister : State.reset.spHeld = true := rfl

theorem witness_NoOperationsOnlyAdvance : 0 ∈ List.range 16 ∧ 15 ∈ List.range 16 ∧ 11 ∈ List.range 12 := by decide

/-- Whether an operation faults. -/
def isFault {α : Type} (r : Res α) : Bool :=
  match r with
  | .fault _ => true
  | .ok _ _ => false

theorem faults_of_isFault {α : Type} {r : Res α} (h : isFault r = true) : ∃ f, r = .fault f := by
  cases r with
  | fault f => exact ⟨f, rfl⟩
  | ok _ _ => cases h

/-- Each cause of a fault, and instructions for which SP matters and for which it does not; the fourth clause at a data-port read
past the store. -/
theorem witness_ModelFaultsAreExactlyTheTwoOfTheRule :
    (({ State.reset with spHeld := false } : State).spHeld = false ∧ Instr.pha.readsSp = true ∧ Instr.tsx.readsSp = true) ∧
    (∃ s : State, s.disk.store ≠ [] ∧ s.disk.offset < 512 ∧ s.disk.store.length ≤ s.disk.byteIndex ∧ s.disk.command = .read) ∧
    (∃ s : State, s.disk.store ≠ [] ∧ s.disk.offset < 512 ∧ s.disk.store.length ≤ s.disk.byteIndex ∧ s.disk.command = .write) ∧
    (∃ (s : State) (f : Fault), s.spHeld = true ∧ exec (.lda (.mem (.abs 0x8010))) s = .fault f) ∧
    (∃ (s : State) (f : Fault), Instr.readsSp (.lda (.mem (.abs 0x8010))) = false ∧ s.spHeld = false ∧
      exec (.lda (.mem (.abs 0x8010))) s = .fault f) ∧
    (∃ (s : State) (f : Fault), s.spHeld = true ∧ interruptEntry s = .fault f) ∧
    (∃ (s : State) (f : Fault), fetch s = .fault f) ∧ (∃ (s : State) (f : Fault), busRead 0x8010 s = .fault f) ∧
    ∃ (s : State) (f : Fault), busWrite 0x8010 0x42 s = .fault f :=
  ⟨⟨rfl, rfl, rfl⟩,
   ⟨{ State.reset with disk := { State.reset.disk with store := [0x01], command := .read, offset := 1 } },
     by decide, by decide, by decide, rfl⟩,
   ⟨{ State.reset with disk := { State.reset.disk with store := [0x01], command := .write, offset := 511 } },
     by decide, by decide, by decide, rfl⟩,
   ⟨{ State.reset with disk := { State.reset.disk with store := [0x01], command := .read, offset := 1 } }, _, rfl, rfl⟩,
   ⟨{ State.reset with spHeld := false, disk := { State.reset.disk with store := [0x01], command := .read, offset := 1 } },
     _, rfl, rfl, rfl⟩,
   ⟨{ State.reset with
      cfg := { resetConfig with diskBase := 0x01F8 }, sp := 0xF8
      disk := { State.reset.disk with store := [0x01], command := .write, offset := 1 } },
      by
        obtain ⟨f, h⟩ := faults_of_isFault (r := interruptEntry { State.reset with
          cfg := { resetConfig with diskBase := 0x01F8 }, sp := 0xF8
          disk := { State.reset.disk with store := [0x01], command := .write, offset := 1 } }) (by decide +kernel)
        exact ⟨f, rfl, h⟩⟩,
   ⟨{ State.reset with pc := 0x8010, disk := { State.reset.disk with store := [0x01], command := .read, offset := 1 } }, faults_of_isFault (by decide +kernel)⟩,
   ⟨{ State.reset with disk := { State.reset.disk with store := [0x01], command := .read, offset := 1 } },
     faults_of_isFault (by decide +kernel)⟩,
   ⟨{ State.reset with disk := { State.reset.disk with store := [0x01], command := .write, offset := 511 } },
     faults_of_isFault (by decide +kernel)⟩⟩

/-- The frames' hypothesis, with an instruction that writes nothing of the frame, one that stores and one that pushes. -/
theorem witness_frames :
    (∃ t, exec .nop State.reset = .next t ∧ Instr.nop.writesA = false ∧ Instr.nop.writesX = false ∧ Instr.nop.writesY = false ∧
      Instr.nop.writesSp = false ∧ Instr.nop.writesC = false ∧ Instr.nop.writesZ = false ∧ Instr.nop.writesI = false ∧
      Instr.nop.writesD = false ∧ Instr.nop.writesV = false ∧ Instr.nop.writesN = false ∧ Instr.nop.callsSetNZ = false ∧
      Instr.nop.destination = none ∧ Instr.nop.pushes = false ∧ Instr.nop.accessesBus = false) ∧
    (∃ t, exec .tax State.reset = .next t ∧ Instr.tax.callsSetNZ = true) ∧
    (∃ t dst ea s1, exec (.sta (.abs 0xFFFF)) State.reset = .next t ∧ Instr.destination (.sta (.abs 0xFFFF)) = some dst ∧
      effectiveAddress dst State.reset = .ok ea s1 ∧ (0x0000 : Addr) ≠ ea) ∧
    (∃ t, exec (.jsr 0x1234) State.reset = .next t ∧ Instr.pushes (.jsr 0x1234) = true ∧ (0x0000 : Addr) ≠ stackAddr State.reset.sp ∧
      (0x0000 : Addr) ≠ stackAddr (State.reset.sp - 1)) ∧
    (∃ t, exec .brk State.reset = .next t ∧ Instr.brk.pushes = true ∧ (0x0000 : Addr) ≠ stackAddr (State.reset.sp - 2)) :=
  ⟨⟨_, rfl, by decide⟩, ⟨_, rfl, rfl⟩, ⟨_, _, _, _, rfl, rfl, rfl, by decide⟩, ⟨_, rfl, rfl, by decide, by decide⟩,
   ⟨_, rfl, rfl, by decide⟩⟩

theorem witness_EveryInstructionCompletesWhereNoTransferIsActive :
    State.reset.cfg.wf = true ∧ State.reset.spHeld = true ∧ State.reset.disk.command = .none ∧ Instr.nop.writesPc = false := by
  decide +kernel

/-- Reset running and executing; paused with a step requested, the line 1 and masked; and three plain bytes that decode. -/
theorem witness_StepRunsTheDecodedInstruction :
    (State.reset.commands.headD [] = [] ∧ State.reset.runState = .running ∧ State.reset.cpuMode = .executing ∧ State.reset.irqLine = false ∧
      ∃ i s1, fetch { State.reset with stepRequest := .idle, commands := State.reset.commands.tail } = .ok i s1) ∧
    (∃ s : State, s.commands.headD [] = [] ∧ s.runState = .paused ∧ s.stepRequest = .stepOnce ∧ s.cpuMode = .executing ∧ s.irqLine = true ∧
      getFlag .interrupt s.p = true) ∧
    (isPlain State.reset.cfg State.reset.pc = true ∧ isPlain State.reset.cfg (State.reset.pc + 1) = true ∧
      isPlain State.reset.cfg (State.reset.pc + 2) = true ∧
      ∃ i rest, decode State.reset.cfg.wdcUnnamedExt [State.reset.mem.get State.reset.pc.toNat,
        State.reset.mem.get (State.reset.pc + 1).toNat, State.reset.mem.get (State.reset.pc + 2).toNat] = .ok (i, rest)) :=
  ⟨⟨rfl, rfl, rfl, rfl, _, _, rfl⟩,
   ⟨{ State.reset with runState := .paused, stepRequest := .stepOnce, irqLine := true, p := 0x34 }, rfl, rfl, rfl, rfl, rfl, rfl⟩,
   by decide +kernel, by decide +kernel, by decide +kernel, _, _, rfl⟩

theorem witness_StepFollowsTheModes :
    (∃ s : State, s.commands.headD [] = [] ∧ s.runState = .paused ∧ s.stepRequest = .idle) ∧
    (∃ s : State, s.commands.headD [] = [] ∧ s.runState = .paused ∧ s.stepRequest = .stepOnce ∧ s.cpuMode = .stopped) ∧
    (∃ s : State, s.commands.headD [] = [] ∧ s.runState = .running ∧ s.cpuMode = .waiting ∧ s.irqLine = false) ∧
    (∃ s : State, s.commands.headD [] = [] ∧ s.runState = .running ∧ s.cpuMode = .waiting ∧ s.irqLine = true) ∧
    (∃ t, State.reset.commands.headD [] = [] ∧ State.reset.runState = .running ∧ step State.reset = .next t ∧ State.reset.logLevel = 0) :=
  ⟨⟨{ State.reset with runState := .paused }, rfl, rfl, rfl⟩,
   ⟨{ State.reset with runState := .paused, stepRequest := .stepOnce, cpuMode := .stopped }, rfl, rfl, rfl, rfl⟩,
   ⟨{ State.reset with cpuMode := .waiting }, rfl, rfl, rfl, rfl⟩,
   ⟨{ State.reset with cpuMode := .waiting, irqLine := true }, rfl, rfl, rfl, rfl⟩,
   ⟨_, rfl, rfl, rfl, rfl⟩⟩

theorem witness_InterruptEntryReplacesTheInstruction :
    (∃ s : State, s.commands.headD [] = [] ∧ s.runState = .running ∧ s.cpuMode = .executing ∧ s.irqLine = true ∧ getFlag .interrupt s.p = false) ∧
    (State.reset.commands.headD [] = [] ∧ State.reset.runState = .running ∧ State.reset.cpuMode = .executing ∧ State.reset.irqLine = false) ∧
    (∃ s : State, s.commands.headD [] = [] ∧ s.stepRequest = .stepOnce ∧ s.cpuMode = .executing ∧ s.irqLine = true ∧ getFlag .interrupt s.p = true) ∧
    ∃ s1 s2 s3 lo s4 hi s5, push (State.reset.pc.extractLsb' 8 8) State.reset = .ok () s1 ∧
      push (State.reset.pc.extractLsb' 0 8) s1 = .ok () s2 ∧ push ((State.reset.p &&& ~~~0x10) ||| 0x20) s2 = .ok () s3 ∧
      busRead 0xFFFE { s3 with p := State.reset.p ||| 0x04 } = .ok lo s4 ∧ busRead 0xFFFF s4 = .ok hi s5 :=
  ⟨⟨{ State.reset with irqLine := true }, rfl, rfl, rfl, rfl, rfl⟩, ⟨rfl, rfl, rfl, rfl⟩,
   ⟨{ State.reset with stepRequest := .stepOnce, irqLine := true, p := 0x34 }, rfl, rfl, rfl, rfl, rfl⟩,
   _, _, _, _, _, _, _, rfl, rfl, rfl, rfl, rfl⟩

theorem witness_TickAllRecomputesTheIrqLine : State.reset.cfg.viaPresent = true ∧ bareState.cfg.viaPresent = false := ⟨rfl, rfl⟩

theorem witness_HostCommandsApplyInOrderBeforeTheStep :
    (∃ (s s1 : State) (c : HostCommand) (cs : List HostCommand), s.commands.headD [] = c :: cs ∧ cs ≠ [] ∧
      s.commands.tail ≠ [] ∧ applyCommand c { s with commands := s.commands.tail } = .ok () s1) ∧
    (Char.ofNat 0xFF).toNat ≤ 0xFF ∧ 0xFF < (Char.ofNat 0x100).toNat ∧ State.reset.runState = .running ∧
    (∃ s : State, s.runState = .paused) ∧ ∀ r : Receiver, ∃ s : State, s.receiver = r ∧ ∃ t, step s = .next t ∧ t.events ≠ [] :=
  ⟨⟨{ State.reset with commands := [[.reset, .step], [.togglePause]] }, _, _, _, rfl, by decide, by decide, rfl⟩, by decide, by decide, rfl,
   ⟨{ State.reset with runState := .paused }, rfl⟩,
   fun r => ⟨{ State.reset with receiver := r, commands := [[.fetchMemorySnapshot]] }, rfl,
     by cases r <;> exact ⟨_, rfl, List.cons_ne_nil _ _⟩⟩⟩

theorem witness_StoppedMachineStaysStoppedUntilReset :
    ∃ s : State, s.cpuMode = .stopped ∧ .reset ∉ s.commands.headD [] ∧ s.commands.headD [] ≠ [] ∧
      (∃ endPc, endsAt endPc 0 s ∧ State.endOfRun endPc s = true) ∧ ∃ u f, runSteps 1 u = .fault f :=
  ⟨{ State.reset with cpuMode := .stopped, commands := [[.togglePause, .step, .sendInputByte 'Z'], [.reset]] }, rfl, by decide, by decide,
   ⟨0x0000, ⟨⟨_, rfl, rfl⟩, fun _ h => absurd h (Nat.not_lt_zero _)⟩, rfl⟩, ⟨{ State.reset with spHeld := false }, _, rfl⟩⟩

theorem witness_ResetSequenceWritesTheResetValues :
    ∃ (s s1 s2 : State) (lo hi : Byte), busRead 0xFFFC { s with
        a := 0x00, x := 0x00, y := 0x00, p := 0x30, sp := s.cfg.spReset.getD 0x00, spHeld := s.cfg.spReset.isSome
        currentInstruction := 0x00, irqLine := false, cpuMode := .executing, runState := .running, stepRequest := .idle
        disk := { s.disk with offset := 0, command := .none } } = .ok lo s1 ∧
      busRead 0xFFFD s1 = .ok hi s2 :=
  ⟨{ State.reset with a := 0x05, p := 0xFF, disk := { State.reset.disk with command := .read, offset := 7 } }, _, _, _, _, rfl, rfl⟩

/-- A refused pair, and an accepted one with plain vectors; ROM images of 1 and 65,536 bytes are both accepted. -/
theorem witness_PowerOnPlacesTheRomAndMeetsTheInvariant :
    (resetConfig.wf && romWf []) = false ∧ (resetConfig.wf && romWf [0xEA]) = true ∧ romWf (List.replicate 65536 0xEA) = true ∧
    isPlain resetConfig 0xFFFC = true ∧ isPlain resetConfig 0xFFFD = true := by
  refine ⟨by decide +kernel, by decide +kernel, ?_, by decide +kernel, by decide +kernel⟩
  simp only [romWf, List.length_replicate]; decide

theorem witness_EveryStepKeepsTheInvariant : State.reset.Inv ∧ ∃ t, step State.reset = .next t :=
  ⟨⟨by decide, by decide, by decide, by decide, by decide, by decide, by decide, by decide, by decide, .slnil⟩,
   ⟨_, rfl⟩⟩

theorem witness_DiskRegistersAnswerAsTheMapSays :
    State.reset.disk.store = [] ∧ (diskState .read 0).disk.store ≠ [] ∧ (diskState .read 0).disk.command ≠ .none ∧
    (diskState .none 0).disk.store ≠ [] ∧ (diskState .none 0).disk.command = .none ∧ 1 ≤ 6 ∧ 1 ≤ 2 := by
  decide +kernel

/-- No command, the last byte of a block, the 513th access, and the byte past the store (the store cut to one byte). -/
theorem witness_DiskDataPortTransfersOneByte :
    (diskState .none 0).disk.command ≠ .read ∧ (diskState .none 0).disk.command ≠ .write ∧ (diskState .none 0).disk.store ≠ [] ∧
    (diskState .read 512).disk.offset = 512 ∧ (diskState .read 512).disk.command = .read ∧
    (diskState .write 512).disk.offset = 512 ∧ (diskState .write 512).disk.command = .write ∧
    (diskState .read 511).disk.offset ≠ 512 ∧ (diskState .read 511).disk.store[511]? = some 0xFB ∧
    511 < (diskState .write 511).disk.store.length ∧
    (∃ s : State, s.disk.store ≠ [] ∧ s.disk.offset ≠ 512 ∧ s.disk.store.length ≤ 1 ∧ s.disk.offset = 1 ∧ s.disk.command = .read) ∧
    (∃ s : State, s.disk.store ≠ [] ∧ s.disk.offset ≠ 512 ∧ s.disk.store.length ≤ 1 ∧ s.disk.offset = 1 ∧ s.disk.command = .write) :=
  ⟨by decide +kernel, by decide +kernel, by decide +kernel, rfl, rfl, rfl, rfl, by decide +kernel, by decide +kernel, by decide +kernel,
   ⟨{ State.reset with disk := { State.reset.disk with store := [0x01], command := .read, offset := 1 } },
     by decide, by decide, by decide, rfl, rfl⟩,
   ⟨{ State.reset with disk := { State.reset.disk with store := [0x01], command := .write, offset := 1 } },
     by decide, by decide, by decide, rfl, rfl⟩⟩

/-- The last block of a store. -/
theorem witness_DiskReadCommandDeliversTheSector :
    ∃ s : State, s.disk.lba = 1 ∧ s.disk.lba * 512 + 512 ≤ s.disk.store.length :=
  ⟨{ State.reset with disk := { diskOf 1024 with lba0 := 1 } }, rfl, by decide +kernel⟩

theorem witness_TimerRegistersReadAndWriteAsTheMapSays :
    (∃ t : Timer, State.reset.timer = t) ∧ 0 ∈ [0, 1, 2, 3, 0xA, 0xF] ∧ 0xF ∈ [0, 1, 2, 3, 0xA, 0xF] := ⟨⟨_, rfl⟩, by decide, by decide⟩

/-- Timer 1 from 0 in free run and from 1 in one-shot, timer 2 from 0 and from 1. -/
theorem witness_TimerFiresOnTheNthTick :
    (∃ t : Timer, t.ifr = 0 ∧ t.t1run = true ∧ t.t2run = false ∧ t.ier.getLsbD 6 = true ∧ t.t1c = 0 ∧ t.acr.getLsbD 6 = true) ∧
    (∃ t : Timer, t.ifr = 0 ∧ t.t1run = true ∧ t.t2run = false ∧ t.ier.getLsbD 6 = true ∧ t.t1c = 1 ∧ t.acr.getLsbD 6 = false) ∧
    (∃ t : Timer, t.ifr = 0 ∧ t.t2run = true ∧ t.t1run = false ∧ t.ier.getLsbD 5 = true ∧ t.t2c = 0) ∧
    (∃ t : Timer, t.ifr = 0 ∧ t.t2run = true ∧ t.t1run = false ∧ t.ier.getLsbD 5 = true ∧ t.t2c = 1) :=
  ⟨⟨{ State.reset.timer with t1run := true, ier := 0x40, acr := 0x40 }, by decide⟩,
   ⟨{ State.reset.timer with t1run := true, ier := 0x40, t1c := 1 }, by decide⟩,
   ⟨{ State.reset.timer with t2run := true, ier := 0x20 }, by decide⟩,
   ⟨{ State.reset.timer with t2run := true, ier := 0x20, t2c := 1 }, by decide⟩⟩

end Sys2Proof.Tests
end

section
/-! PROOF. Power-on (spec 00_scope.md R8, 20_memory.md R41, 70_reset_and_hazards.md R270, R271): where the ROM stands in storage,
that reset always completes, and that it keeps the invariant. -/

namespace Sys2Proof.Machine

/-- The bytes laid down from `a` upward are read back from there, and every other byte is 0x00. -/
theorem Memory.get_cellsFrom (vs : List Byte) (a b : Nat) :
    (Memory.cellsFrom a vs).get b = if a ≤ b then vs.getD (b - a) 0x00 else 0x00 := by
  induction vs generalizing a with
  | nil => simp [Memory.cellsFrom]
  | cons v vs ih =>
    have later : a < b → (v :: vs).getD (b - a) 0x00 = vs.getD (b - (a + 1)) 0x00 := fun h => by
      rw [show b - a = b - (a + 1) + 1 by omega, List.getD_cons_succ]
    have head : (Memory.cellsFrom a (v :: vs)).get b = if a = b then v else (Memory.cellsFrom (a + 1) vs).get b := by
      simp only [Memory.cellsFrom]
      split
      · rename_i hv
        split
        · rename_i hab; rw [ih, if_neg (by omega), hv]
        · rfl
      · rfl
    rw [head, ih]
    rcases lt_trichotomy a b with h | rfl | h
    · rw [if_neg (by omega), if_pos (by omega), if_pos (by omega), later h]
    · simp
    · rw [if_neg (by omega), if_neg (by omega), if_neg (by omega)]

/-- The storage of construction (R41): the image at the top, zeros below. -/
theorem Memory.get_ofRom (rom : List Byte) (a : Nat) :
    (Memory.ofRom rom).get a = if 65536 - rom.length ≤ a then rom.getD (a - (65536 - rom.length)) 0x00 else 0x00 :=
  Memory.get_cellsFrom rom _ a

theorem Disk.lba_eq_zero {d : Disk} (h0 : d.lba0 = 0) (h1 : d.lba1 = 0) (h2 : d.lba2 = 0) (h3 : d.lba3 = 0) : d.lba = 0 := by
  simp [Disk.lba, h0, h1, h2, h3]

/-- With no disk command active, no read of the disk faults, and the controller stays as it is. -/
theorem diskRead_completes {s : State} (n : Nat) (idle : s.disk.command = .none) :
    ∃ v t, diskRead n s = .ok v t ∧ t.disk = s.disk := by
  unfold diskRead
  split
  · exact ⟨_, _, rfl, rfl⟩
  split
  · have draws : diskReadData s = drawByte s := if_pos (by simp [idle])
    exact ⟨_, s.drawn, draws, rfl⟩
  · exact ⟨_, _, rfl, rfl⟩
  · exact ⟨_, _, rfl, rfl⟩

theorem timerRead_completes (n : Nat) (s : State) : ∃ v t, timerRead n s = .ok v t ∧ t.disk = s.disk := by
  unfold timerRead
  split <;> exact ⟨_, _, rfl, rfl⟩

/-- With no disk command active, no bus read faults, and the disk controller stays as it is. -/
theorem busRead_completes {s : State} (a : Addr) (idle : s.disk.command = .none) :
    ∃ v t, busRead a s = .ok v t ∧ t.disk = s.disk := by
  unfold busRead
  split
  · exact diskRead_completes _ idle
  split
  · exact ⟨_, _, rfl, rfl⟩
  split
  · exact ⟨_, _, rfl, rfl⟩
  split
  · exact timerRead_completes _ s
  split <;> exact ⟨_, _, rfl, rfl⟩

theorem busRead16_completes {s : State} (a : Addr) (idle : s.disk.command = .none) :
    ∃ w t, busRead16 a s = .ok w t ∧ t.disk = s.disk := by
  obtain ⟨lo, s1, h1, d1⟩ := busRead_completes a idle
  obtain ⟨hi, s2, h2, d2⟩ := busRead_completes (a + 1) (d1 ▸ idle)
  exact ⟨word hi lo, s2, by rw [busRead16, h1, Res.bind_ok, h2, Res.bind_ok], d2.trans d1⟩

/-- A word read of two plain addresses changes nothing. -/
theorem busRead16_plain {a : Addr} {s : State} (low : isPlain s.cfg a = true) (high : isPlain s.cfg (a + 1) = true) :
    busRead16 a s = .ok (word (s.byteAt (a + 1)) (s.byteAt a)) s := by
  rw [busRead16, busRead_plain low, Res.bind_ok, busRead_plain high, Res.bind_ok]

/-- Reset never faults: it has cleared the disk command before it reads the vector (R270). -/
theorem resetSequence_completes (s : State) : ∃ t, resetSequence s = .ok () t := by
  obtain ⟨w, t, h, -⟩ := busRead16_completes (s := s.resetFields) resetVector rfl
  exact ⟨t.setPc w, by rw [resetSequence, h, Res.bind_ok]⟩

/-- Reset where the vector is plain: the fields it writes, and PC. -/
theorem resetSequence_plain {s : State} (low : isPlain s.cfg 0xFFFC = true) (high : isPlain s.cfg 0xFFFD = true) :
    resetSequence s = .ok () (s.resetFields.setPc (word (s.byteAt 0xFFFD) (s.byteAt 0xFFFC))) := by
  rw [resetSequence, busRead16_plain (s := s.resetFields) (a := resetVector) low high]
  rfl

/-- A bus effect keeps the invariant where the fields outside the bus still meet their clauses. -/
theorem BusEffect.inv {s t : State} (k : BusEffect s t) (h : s.Inv)
    (noVia : t.cfg.viaPresent = false → t.irqLine = false)
    (noWait : t.cfg.wdcUnnamedExt = false → t.cpuMode = .executing)
    (spHeld : t.cfg.spReset.isSome = true → t.spHeld = true)
    (clock : t.cycleClock < 2 ^ t.cfg.clockWidth) : t.Inv where
  memory := k.memWf h.memory
  offset := k.offset h.offset
  active := fun c => k.active (k.cfg ▸ c) h.offset (h.active (k.cfg ▸ c))
  ifr := k.ifr h.ifr
  ier := k.ier h.ier
  noVia := noVia
  noWait := noWait
  spHeld := spHeld
  clock := clock
  delivered := by obtain ⟨_, e⟩ := k.outputs; exact e.sublist h.delivered

theorem State.Inv.resetFields {s : State} (h : s.Inv) : s.resetFields.Inv :=
  { h with
    offset := Nat.zero_le _
    active := fun _ c => absurd rfl c
    noVia := fun _ => rfl
    noWait := fun _ => rfl
    spHeld := fun held => held }

/-- Reset keeps the invariant and the configuration (R270). -/
theorem resetSequence_inv {s t : State} (h : s.Inv) (hr : resetSequence s = .ok () t) : t.Inv ∧ t.cfg = s.cfg := by
  obtain ⟨e, k⟩ := resetSequence_ok hr
  have r := h.resetFields
  refine ⟨k.effect.inv r ?_ ?_ ?_ ?_, k.effect.cfg⟩ <;> rw [e]
  · exact r.noVia
  · exact r.noWait
  · exact r.spHeld
  · exact r.clock

/-- The machine at construction meets the invariant (R37, R41). -/
theorem construct_inv (c : Config) {rom : List Byte} (disk : List Byte) (hrom : romWf rom = true) : (construct c rom disk).Inv where
  memory := Memory.wf_ofRom (by simp only [romWf, Bool.and_eq_true, decide_eq_true_eq] at hrom; exact hrom.2)
  offset := Nat.zero_le _
  active := fun _ h => absurd rfl h
  ifr := by simp [construct]
  ier := by simp [construct]
  noVia := fun _ => rfl
  noWait := fun _ => rfl
  spHeld := fun held => held
  clock := Nat.two_pow_pos _
  delivered := .slnil

theorem powerOn_refused {c : Config} {rom : List Byte} (disk : List Byte) (h : (c.wf && romWf rom) = false) :
    powerOn c rom disk = .refused .badConfiguration := by
  rw [powerOn, h]; rfl

/-- Power-on of an admitted configuration is construction, then reset (R271). -/
theorem powerOn_of_reset {c : Config} {rom disk : List Byte} {t : State} (h : (c.wf && romWf rom) = true)
    (hr : resetSequence (construct c rom disk) = .ok () t) : powerOn c rom disk = .next t := by
  rw [powerOn, if_pos h, hr]; rfl

/-- Settles O51: reset completes on the constructed machine and keeps its invariant; where the vector is plain it changes only the
fields R270 names, so storage still is the ROM at the top over zeros. -/
theorem powerOnPlacesTheRomAndMeetsTheInvariant : Obligations.PowerOnPlacesTheRomAndMeetsTheInvariant := by
  unfold Obligations.PowerOnPlacesTheRomAndMeetsTheInvariant
  refine ⟨fun c rom disk h => powerOn_refused disk h, fun c rom disk h => ?_, fun c rom disk hc hrom low high => ?_⟩
  · obtain ⟨-, hrom⟩ := Bool.and_eq_true_iff.1 h
    obtain ⟨t, hr⟩ := resetSequence_completes (construct c rom disk)
    exact ⟨t, powerOn_of_reset h hr, resetSequence_inv (construct_inv c disk hrom) hr⟩
  · refine ⟨_, powerOn_of_reset (by rw [hc, hrom]; rfl) (resetSequence_plain low high), ?_⟩
    exact ⟨rfl, rfl, rfl, rfl, rfl, rfl, rfl, rfl, rfl, rfl, rfl, rfl, rfl, rfl, rfl, Disk.lba_eq_zero rfl rfl rfl rfl, rfl,
      fun a _ => Memory.get_ofRom rom a, rfl⟩

end Sys2Proof.Machine
end

section
/-! PROOF. The frame of every instruction (spec 10_state.md R20-R35, 40_addressing.md R90, R106): `exec` is split into its arms
once, in `exec_frame`; the frames of the registers, of the flags and of the control state are read off it. -/

namespace Sys2Proof

/-- The tables of the instructions that write a general register, as one (R20). -/
def Instr.writesReg (i : Instr) : Machine.Reg → Bool
  | .a => i.writesA
  | .x => i.writesX
  | .y => i.writesY

/-- The tables of the instructions that write a flag, as one (R25-R30). -/
def Instr.writesFlag (i : Instr) : Machine.Flag → Bool
  | .carry => i.writesC
  | .zero => i.writesZ
  | .interrupt => i.writesI
  | .decimal => i.writesD
  | .overflow => i.writesV
  | .negative => i.writesN

theorem Instr.writesFlag_zero {i : Instr} (h : i.callsSetNZ = true) : i.writesFlag .zero = true := by
  simp [Instr.writesFlag, Instr.writesZ, h]

theorem Instr.writesFlag_negative {i : Instr} (h : i.callsSetNZ = true) : i.writesFlag .negative = true := by
  simp [Instr.writesFlag, Instr.writesN, h]

end Sys2Proof

namespace Sys2Proof.Machine

variable {i : Instr} {s t u : State} {p q : Byte}

/-! ## The status byte -/

/-- The flags that `i` may not write read in `q` as in `p`. -/
def FlagsKept (i : Instr) (p q : Byte) : Prop := ∀ f, i.writesFlag f = false → getFlag f q = getFlag f p

/-- All that `i` may do to the status byte `p` on the way to `q` (R25-R31). -/
structure StatusFrame (i : Instr) (p q : Byte) : Prop where
  flags  : FlagsKept i p q
  forced : i.callsSetNZ = true → q &&& 0x30 = 0x30
  kept   : i.callsSetNZ = false → i ≠ .plp → i ≠ .rti → q &&& 0x30 = p &&& 0x30

theorem FlagsKept.refl : FlagsKept i p p := fun _ _ => rfl

theorem FlagsKept.putFlag {f : Flag} (h : FlagsKept i p q) (hf : i.writesFlag f = true) (b : Bool) : FlagsKept i p (putFlag f b q) := by
  intro g hg
  have hne : f ≠ g := fun e => by simp [← e, hf] at hg
  rw [getFlag_putFlag, if_neg hne]
  exact h g hg

theorem StatusFrame.refl (nz : i.callsSetNZ = false) : StatusFrame i p p :=
  ⟨.refl, fun h => by simp [nz] at h, fun _ _ _ => rfl⟩

theorem StatusFrame.putFlag {f : Flag} (h : StatusFrame i p q) (hf : i.writesFlag f = true) (b : Bool) :
    StatusFrame i p (putFlag f b q) :=
  ⟨h.flags.putFlag hf b, fun nz => (putFlag_and30 f b q).trans (h.forced nz),
    fun nz hp hr => (putFlag_and30 f b q).trans (h.kept nz hp hr)⟩

/-- A caller of the flag helper writes Z and N, and sets bits 4 and 5 (R120). -/
theorem FlagsKept.setNZ (h : FlagsKept i p q) (nz : i.callsSetNZ = true) (v : Byte) : StatusFrame i p (setNZ v q) where
  flags := fun g hg => by
    rw [← (h.putFlag (Instr.writesFlag_zero nz) (v == 0x00)).putFlag (Instr.writesFlag_negative nz) (v.getLsbD 7) g hg]
    exact getFlag_or30 g _
  forced := fun _ => setNZ_and30 v q
  kept := fun h => by simp [nz] at h

theorem StatusFrame.aluFlags (nz : i.callsSetNZ = true) (hc : i.writesFlag .carry = true) (hv : i.writesFlag .overflow = true)
    (r : AluResult) (v : Bool) : StatusFrame i p (aluFlags r v p) :=
  ((FlagsKept.refl.putFlag hc _).putFlag hv _).setNZ nz _

theorem StatusFrame.shiftFlags (nz : i.callsSetNZ = true) (hc : i.writesFlag .carry = true) (c : Bool) (w : Byte) :
    StatusFrame i p (shiftFlags c w p) :=
  (FlagsKept.refl.putFlag hc c).setNZ nz w

theorem StatusFrame.compareFlags (nz : i.callsSetNZ = false) (hn : i.writesFlag .negative = true) (hz : i.writesFlag .zero = true)
    (hc : i.writesFlag .carry = true) (c : CmpFlags) (r m : Byte) : StatusFrame i p (compareFlags c r m p) :=
  (((StatusFrame.refl nz).putFlag hz _).putFlag hc _).putFlag hn _

theorem StatusFrame.testFlags (nz : i.callsSetNZ = false) (hz : i.writesFlag .zero = true) (a m : Byte) :
    StatusFrame i p (testFlags a m p) :=
  (StatusFrame.refl nz).putFlag hz _

theorem StatusFrame.bitFlags (nz : i.callsSetNZ = false) (hn : i.writesFlag .negative = true) (hv : i.writesFlag .overflow = true)
    (hz : i.writesFlag .zero = true) (copyNV : Bool) (a m : Byte) : StatusFrame i p (bitFlags copyNV a m p) := by
  have zero := StatusFrame.testFlags (p := p) nz hz a m
  cases copyNV
  · exact zero
  · exact (zero.putFlag hn _).putFlag hv _

/-- PLP and RTI may write the whole status byte. -/
theorem StatusFrame.of_replacesP (h : i = .plp ∨ i = .rti) : StatusFrame i p q := by
  obtain rfl | rfl := h
  · exact ⟨fun f hf => (by cases f <;> cases hf), fun nz => (nomatch nz), fun _ hp => absurd rfl hp⟩
  · exact ⟨fun f hf => (by cases f <;> cases hf), fun nz => (nomatch nz), fun _ _ hr => absurd rfl hr⟩

/-! ## The registers -/

/-- The state `s` with everything an instruction may write outside the bus taken from `t`. -/
def State.withRegs (s t : State) : State :=
  { s with a := t.a, x := t.x, y := t.y, sp := t.sp, spHeld := t.spHeld, p := t.p, pc := t.pc, cpuMode := t.cpuMode }

/-- All that `i` may do to the state outside the bus, P and PC apart, before its cycles are charged: the rest of the state is as it
was; SP is as it was, or was written and then holds a value (R20, R22, R35). -/
structure RegFrame (i : Instr) (s t : State) : Prop where
  rest : t = (s.withRegs t).withBus t
  reg  : ∀ r, i.writesReg r = false → t.reg r = s.reg r
  sp   : (t.sp = s.sp ∧ t.spHeld = s.spHeld) ∨ (i.writesSp = true ∧ t.spHeld = true)
  mode : i ≠ .wai → i ≠ .stp → t.cpuMode = s.cpuMode

theorem RegFrame.cfg (h : RegFrame i s t) : t.cfg = s.cfg := (congrArg State.cfg h.rest :)
theorem RegFrame.cycleClock (h : RegFrame i s t) : t.cycleClock = s.cycleClock := (congrArg State.cycleClock h.rest :)
theorem RegFrame.currentInstruction (h : RegFrame i s t) : t.currentInstruction = s.currentInstruction :=
  (congrArg State.currentInstruction h.rest :)
theorem RegFrame.irqLine (h : RegFrame i s t) : t.irqLine = s.irqLine := (congrArg State.irqLine h.rest :)
theorem RegFrame.runState (h : RegFrame i s t) : t.runState = s.runState := (congrArg State.runState h.rest :)
theorem RegFrame.stepRequest (h : RegFrame i s t) : t.stepRequest = s.stepRequest := (congrArg State.stepRequest h.rest :)
theorem RegFrame.logLevel (h : RegFrame i s t) : t.logLevel = s.logLevel := (congrArg State.logLevel h.rest :)
theorem RegFrame.commands (h : RegFrame i s t) : t.commands = s.commands := (congrArg State.commands h.rest :)
theorem RegFrame.receiver (h : RegFrame i s t) : t.receiver = s.receiver := (congrArg State.receiver h.rest :)

theorem RegFrame.refl : RegFrame i s s := ⟨rfl, fun _ _ => rfl, .inl ⟨rfl, rfl⟩, fun _ _ => rfl⟩

theorem RegFrame.setP (h : RegFrame i s t) (p : Byte) : RegFrame i s (t.setP p) :=
  ⟨congrArg (·.setP p) h.rest, fun r hr => .trans (by cases r <;> rfl) (h.reg r hr), h.sp, h.mode⟩

theorem RegFrame.setPc (h : RegFrame i s t) (pc : Addr) : RegFrame i s (t.setPc pc) :=
  ⟨congrArg (·.setPc pc) h.rest, fun r hr => .trans (by cases r <;> rfl) (h.reg r hr), h.sp, h.mode⟩

theorem RegFrame.setSp (h : RegFrame i s t) (hsp : i.writesSp = true) (v : Byte) : RegFrame i s (t.setSp v) :=
  ⟨congrArg (·.setSp v) h.rest, fun r hr => .trans (by cases r <;> rfl) (h.reg r hr), .inr ⟨hsp, rfl⟩, h.mode⟩

theorem RegFrame.setMode (h : RegFrame i s t) (hm : i = .wai ∨ i = .stp) (m : CpuMode) : RegFrame i s (t.setMode m) :=
  ⟨congrArg (·.setMode m) h.rest, fun r hr => .trans (by cases r <;> rfl) (h.reg r hr), h.sp,
    fun hw hs => (hm.elim hw hs).elim⟩

theorem State.reg_setReg_of_ne {r r' : Reg} (h : r' ≠ r) (s : State) (v : Byte) : (s.setReg r v).reg r' = s.reg r' := by
  cases r' <;> simp [h.symm]

theorem RegFrame.setReg {r : Reg} (h : RegFrame i s t) (hr : i.writesReg r = true) (v : Byte) : RegFrame i s (t.setReg r v) where
  rest := (congrArg (·.setReg r v) h.rest).trans (by cases r <;> rfl)
  reg := fun r' hr' => by
    have hne : r' ≠ r := fun e => by simp [e, hr] at hr'
    exact (State.reg_setReg_of_ne hne t v).trans (h.reg r' hr')
  sp := by simpa using h.sp
  mode := by simpa using h.mode

/-- The bus parts of a state do not matter to the frame of its registers. -/
theorem RegFrame.of_withBus (h : RegFrame i s u) (e : t = u.withBus t) : RegFrame i s t := by
  rw [e]
  exact ⟨congrArg (·.withBus t) h.rest, fun r hr => .trans (by cases r <;> rfl) (h.reg r hr), h.sp, h.mode⟩

/-! ## The whole frame -/

/-- Nothing reached the bus between `s` and `t`; a free value may have been drawn. -/
def Quiet (s t : State) : Prop :=
  t.mem = s.mem ∧ t.disk = s.disk ∧ t.timer = s.timer ∧ t.events = s.events ∧ t.delivered = s.delivered

/-- All that `i` may do to the state, PC apart, before its cycles are charged. -/
structure Frame (i : Instr) (s t : State) : Prop where
  regs   : RegFrame i s t
  status : StatusFrame i s.p t.p
  effect : BusEffect s t
  quiet  : i.accessesBus = false → Quiet s t

theorem Frame.of_withBus (regs : RegFrame i s u) (e : t = u.withBus t) (status : StatusFrame i s.p u.p) (effect : BusEffect s t)
    (quiet : i.accessesBus = false → Quiet s t) : Frame i s t :=
  ⟨regs.of_withBus e, by rw [e]; exact status, effect, quiet⟩

/-- The frame of an operation of an instruction that accesses the bus. -/
theorem Frame.of_bus (bus : i.accessesBus = true) (regs : RegFrame i s u) (e : t = u.withBus t) (status : StatusFrame i s.p u.p)
    (effect : BusEffect s t) : Frame i s t :=
  .of_withBus regs e status effect fun h => by simp [bus] at h

/-- The frame of an operation that leaves the bus parts of the state. -/
theorem Frame.of_regs (regs : RegFrame i s t) (status : StatusFrame i s.p t.p) (e : t.withBus s = t) : Frame i s t where
  regs := regs
  status := status
  effect := (BusEffect.refl t).of_withBus e regs.cfg regs.receiver
  quiet := fun _ => by rw [← e]; exact ⟨rfl, rfl, rfl, rfl, rfl⟩

theorem Frame.refl (nz : i.callsSetNZ = false) : Frame i s s := .of_regs .refl (.refl nz) rfl

theorem Frame.setPc (h : Frame i s t) (pc : Addr) : Frame i s (t.setPc pc) := ⟨h.regs.setPc pc, h.status, h.effect.setPc pc, h.quiet⟩

/-! ## The operations that do not reach the bus -/

theorem setRegNZ_frame {r : Reg} (v : Byte) (hr : i.writesReg r = true) (nz : i.callsSetNZ = true) : Frame i s (s.setRegNZ r v) :=
  .of_regs ((RegFrame.refl.setReg hr v).setP _) (FlagsKept.refl.setNZ nz v) (by cases r <;> rfl)

theorem setFlag_frame {f : Flag} (b : Bool) (hf : i.writesFlag f = true) (nz : i.callsSetNZ = false) : Frame i s (s.setFlag f b) :=
  .of_regs (RegFrame.refl.setP _) ((StatusFrame.refl nz).putFlag hf b) rfl

theorem setMode_frame (m : CpuMode) (hm : i = .wai ∨ i = .stp) (nz : i.callsSetNZ = false) : Frame i s (s.setMode m) :=
  .of_regs (RegFrame.refl.setMode hm m) (.refl nz) rfl

theorem setSp_frame (v : Byte) (hsp : i.writesSp = true) (nz : i.callsSetNZ = false) : Frame i s (s.setSp v) :=
  .of_regs (RegFrame.refl.setSp hsp v) (.refl nz) rfl

/-! ## The operations that read a source operand: those of an immediate form are quiet -/

theorem Quiet.refl (s : State) : Quiet s s := ⟨rfl, rfl, rfl, rfl, rfl⟩

theorem setReg_setP_quiet (s : State) (r : Reg) (v p : Byte) : Quiet s ((s.setReg r v).setP p) := by
  cases r <;> exact .refl s

theorem writeAlu_quiet {r : AluResult} (h : writeAlu r s = .ok () t) : Quiet s t := by
  unfold writeAlu at h
  split at h <;> cases h <;> exact .refl s

/-- Where the instruction accesses no bus, its source operand is immediate, and the operation is quiet if what follows the read is. -/
theorem quiet_of_source {src : Source} {k : Byte → State → Res Unit} (mem : ∀ a, src = .mem a → i.accessesBus = true)
    (h : (readSource src s).bind k = .ok () t) (hk : ∀ {m u v}, k m u = .ok () v → Quiet u v) (bus : i.accessesBus = false) :
    Quiet s t := by
  cases src with
  | imm v => exact hk h
  | mem a => simp [mem a rfl] at bus

section
variable {src : Source} (mem : ∀ a, src = .mem a → i.accessesBus = true)
include mem

theorem load_frame {r : Reg} (hr : i.writesReg r = true) (nz : i.callsSetNZ = true) (h : load r src s = .ok () t) : Frame i s t := by
  obtain ⟨m, e, k⟩ := load_ok h
  have f := setRegNZ_frame (s := s) m hr nz
  exact .of_withBus f.regs e f.status k.effect (quiet_of_source mem h fun e => by cases e; exact setReg_setP_quiet ..)

theorem logic_frame {op : Byte → Byte → Byte} (ha : i.writesReg .a = true) (nz : i.callsSetNZ = true)
    (h : logic op src s = .ok () t) : Frame i s t := by
  obtain ⟨v, e, k⟩ := logic_ok h
  have f := setRegNZ_frame (s := s) v ha nz
  exact .of_withBus f.regs e f.status k.effect (quiet_of_source mem h fun e => by cases e; exact setReg_setP_quiet ..)

theorem addSource_frame {f : Byte → State → AluResult} (ha : i.writesReg .a = true) (nz : i.callsSetNZ = true)
    (hc : i.writesFlag .carry = true) (hv : i.writesFlag .overflow = true) (h : addSource f src s = .ok () t) : Frame i s t := by
  obtain ⟨r, v, e, k⟩ := addSource_ok h
  exact .of_withBus ((RegFrame.refl.setReg ha _).setP _) e (.aluFlags nz hc hv r v) k.effect (quiet_of_source mem h writeAlu_quiet)

theorem compareReg_frame {r : Reg} (nz : i.callsSetNZ = false) (hn : i.writesFlag .negative = true) (hz : i.writesFlag .zero = true)
    (hc : i.writesFlag .carry = true) (h : compareReg r src s = .ok () t) : Frame i s t := by
  obtain ⟨m, e, k⟩ := compareReg_ok h
  exact .of_withBus (RegFrame.refl.setP _) e (.compareFlags nz hn hz hc ..) k.effect
    (quiet_of_source mem h fun e => by cases e; exact .refl _)

theorem bitTest_frame (nz : i.callsSetNZ = false) (hn : i.writesFlag .negative = true) (hv : i.writesFlag .overflow = true)
    (hz : i.writesFlag .zero = true) (h : bitTest src s = .ok () t) : Frame i s t := by
  obtain ⟨m, e, k⟩ := bitTest_ok h
  exact .of_withBus (RegFrame.refl.setP _) e (.bitFlags nz hn hv hz ..) k.effect
    (quiet_of_source mem h fun e => by cases e; exact .refl _)

end

/-! ## Stores and read-modify-writes -/

theorem storeTo_frame {dst : Address} {v : Byte} (bus : i.accessesBus = true) (nz : i.callsSetNZ = false)
    (h : storeTo dst v s = .ok () t) : Frame i s t := by
  obtain ⟨e, k, -⟩ := storeTo_ok h
  exact .of_bus bus .refl e (.refl nz) k

theorem modifyMem_frame {dst : Address} {f : Byte → Byte} {g : Byte → Byte → Byte} (bus : i.accessesBus = true)
    (status : ∀ m p, StatusFrame i p (g m p)) (h : modifyMem dst f g s = .ok () t) : Frame i s t := by
  obtain ⟨⟨m, e⟩, k, -⟩ := modifyMem_ok h
  exact .of_bus bus (RegFrame.refl.setP _) e (status m _) k

theorem modifyTarget_frame {dst : Target} {f : Byte → Byte} {g : Byte → Byte → Byte} (acc : dst = .acc → i.writesReg .a = true)
    (mem : ∀ a, dst = .mem a → i.accessesBus = true) (status : ∀ m p, StatusFrame i p (g m p))
    (h : modifyTarget dst f g s = .ok () t) : Frame i s t := by
  cases dst with
  | acc => cases h; exact .of_regs ((RegFrame.refl.setReg (acc rfl) _).setP _) (status _ _) rfl
  | mem a => exact modifyMem_frame (mem a rfl) status h

/-! ## Control transfer -/

theorem branchBit_frame {want : Bool} {n : Nat} {z r : Byte} (bus : i.accessesBus = true) (nz : i.callsSetNZ = false)
    (h : branchBit want n z r s = .ok () t) : Frame i s t := by
  obtain ⟨m, e, k⟩ := branchBit_ok h
  exact .of_bus bus (RegFrame.refl.setPc _) e (.refl nz) k.effect

theorem jump_frame {dst : JumpOperand} (nz : i.callsSetNZ = false) (bus : (∀ w, dst ≠ .abs w) → i.accessesBus = true)
    (h : jump dst s = .ok () t) : Frame i s t := by
  obtain ⟨e, k⟩ := jump_ok h
  refine .of_withBus (RegFrame.refl.setPc _) e (.refl nz) k.effect fun quiet => ?_
  cases dst with
  | abs w => cases h; exact .refl s
  | ind w | aix w => simp [bus (fun _ => nofun)] at quiet

theorem call_frame {w : Addr} (bus : i.accessesBus = true) (hsp : i.writesSp = true) (nz : i.callsSetNZ = false)
    (h : call w s = .ok () t) : Frame i s t := by
  obtain ⟨-, e, k, -⟩ := call_ok h
  exact .of_bus bus ((RegFrame.refl.setSp hsp _).setPc _) e (.refl nz) k

theorem returnSub_frame (bus : i.accessesBus = true) (hsp : i.writesSp = true) (nz : i.callsSetNZ = false)
    (h : returnSub s = .ok () t) : Frame i s t := by
  obtain ⟨-, e, k⟩ := returnSub_ok h
  exact .of_bus bus ((RegFrame.refl.setSp hsp _).setPc _) e (.refl nz) k.effect

theorem enterException_frame {ret : Addr} {v : Byte} (bus : i.accessesBus = true) (hsp : i.writesSp = true)
    (hi : i.writesFlag .interrupt = true) (nz : i.callsSetNZ = false) (h : enterException ret v s = .ok () t) : Frame i s t := by
  obtain ⟨-, e, k, -⟩ := enterException_ok h
  exact .of_bus bus (((RegFrame.refl.setSp hsp _).setP _).setPc _) e ((StatusFrame.refl nz).putFlag hi true) k

theorem returnFromException_frame (h : returnFromException s = .ok () t) : Frame .rti s t := by
  obtain ⟨-, e, k⟩ := returnFromException_ok h
  exact .of_bus rfl (((RegFrame.refl.setSp rfl _).setP _).setPc _) e (.of_replacesP (.inr rfl)) k.effect

/-! ## The stack -/

theorem push_frame {v : Byte} (bus : i.accessesBus = true) (hsp : i.writesSp = true) (nz : i.callsSetNZ = false)
    (h : push v s = .ok () t) : Frame i s t := by
  obtain ⟨-, e, k, -⟩ := push_ok h
  exact .of_bus bus (RegFrame.refl.setSp hsp _) e (.refl nz) k

theorem pullReg_frame {r : Reg} (bus : i.accessesBus = true) (hsp : i.writesSp = true) (hr : i.writesReg r = true)
    (nz : i.callsSetNZ = true) (h : pullReg r s = .ok () t) : Frame i s t := by
  obtain ⟨v, -, e, k⟩ := pullReg_ok h
  exact .of_bus bus (((RegFrame.refl.setSp hsp _).setReg hr v).setP _) e (FlagsKept.refl.setNZ nz v) k.effect

theorem plp_frame (h : ((pull s).bind fun p s1 => .ok () (s1.setP p)) = .ok () t) : Frame .plp s t := by
  obtain ⟨p, u, h1, h⟩ := Res.bind_eq_ok.1 h
  cases h
  obtain ⟨-, e, k⟩ := pull_ok h1
  exact .of_bus rfl ((RegFrame.refl.setSp rfl _).setP p) (congrArg (·.setP p) e) (.of_replacesP (.inl rfl)) (k.setP p).effect

theorem tsx_frame (h : ((readSp s).bind fun sp s1 => .ok () (s1.setRegNZ .x sp)) = .ok () t) : Frame .tsx s t := by
  obtain ⟨sp, u, h1, h⟩ := Res.bind_eq_ok.1 h
  cases h
  obtain ⟨-, -, rfl⟩ := readSp_ok h1
  exact setRegNZ_frame sp rfl rfl

/-! ## The dispatch -/

/-- What completing `i` leaves (R90 steps 4 to 6): its meaning and its new PC keep to its frame, and then its cycles are charged. -/
def Framed (i : Instr) (s t : State) : Prop := ∃ u, Frame i s u ∧ t = u.charge

theorem Framed.charged {r : Res Unit} (h : r.outcome State.charge = .next t) (k : ∀ {u}, r = .ok () u → Frame i s u) :
    Framed i s t := by
  obtain ⟨u, e, rfl⟩ := Res.outcome_eq_next.1 h
  exact ⟨u, k e, rfl⟩

theorem Framed.retired {r : Res Unit} {n : Nat} (h : r.outcome (State.retire n) = .next t) (k : ∀ {u}, r = .ok () u → Frame i s u) :
    Framed i s t := by
  obtain ⟨u, e, rfl⟩ := Res.outcome_eq_next.1 h
  exact ⟨_, (k e).setPc _, rfl⟩

theorem Framed.charged_ok (h : (Res.ok () u).outcome State.charge = .next t) (k : Frame i s u) : Framed i s t :=
  .charged h fun e => by cases e; exact k

theorem Framed.retired_ok {n : Nat} (h : (Res.ok () u).outcome (State.retire n) = .next t) (k : Frame i s u) : Framed i s t :=
  .retired h fun e => by cases e; exact k

/-- Every instruction keeps to its frame. -/
theorem exec_frame (h : exec i s = .next t) : Framed i s t := by
  cases i with
  | lda src | ldx src | ldy src => exact .retired h (load_frame (fun _ e => by rw [e]; rfl) rfl rfl)
  | adc src | sbc src => exact .retired h (addSource_frame (fun _ e => by rw [e]; rfl) rfl rfl rfl rfl)
  | and src | ora src | eor src => exact .retired h (logic_frame (fun _ e => by rw [e]; rfl) rfl rfl)
  | cmp src | cpx src | cpy src => exact .retired h (compareReg_frame (fun _ e => by rw [e]; rfl) rfl rfl rfl rfl)
  | bit src => exact .retired h (bitTest_frame (fun _ e => by rw [e]; rfl) rfl rfl rfl rfl)
  | sta dst | stx dst | sty dst | stz dst => exact .retired h (storeTo_frame rfl rfl)
  | inc dst | dec dst =>
    exact .retired h (modifyTarget_frame (fun e => by rw [e]; rfl) (fun _ e => by rw [e]; rfl) fun _ _ => FlagsKept.refl.setNZ rfl _)
  | asl dst | lsr dst | rol dst | ror dst =>
    exact .retired h (modifyTarget_frame (fun e => by rw [e]; rfl) (fun _ e => by rw [e]; rfl) fun _ _ => .shiftFlags rfl rfl _ _)
  | trb dst | tsb dst => exact .retired h (modifyMem_frame rfl fun _ _ => .testFlags rfl rfl _ _)
  | rmb0 z | rmb1 z | rmb2 z | rmb3 z | rmb4 z | rmb5 z | rmb6 z | rmb7 z | smb0 z | smb1 z | smb2 z | smb3 z | smb4 z | smb5 z
  | smb6 z | smb7 z => exact .retired h (modifyMem_frame rfl fun _ _ => .refl rfl)
  | inx | iny | dex | dey | tax | tay | txa | tya => exact .retired_ok h (setRegNZ_frame _ rfl rfl)
  | tsx => exact .retired h tsx_frame
  | txs => exact .retired_ok h (setSp_frame _ rfl rfl)
  | clc | sec | cli | sei | cld | sed | clv => exact .retired_ok h (setFlag_frame _ rfl rfl)
  | nop | nop1 | nop2 | nop3 => exact .retired_ok h (.refl rfl)
  | wai => exact .retired_ok h (setMode_frame _ (.inl rfl) rfl)
  | stp => exact .retired_ok h (setMode_frame _ (.inr rfl) rfl)
  | pha | php | phx | phy => exact .retired h (push_frame rfl rfl rfl)
  | pla | plx | ply => exact .retired h (pullReg_frame rfl rfl rfl rfl)
  | plp => exact .retired h plp_frame
  | bcc r | bcs r | beq r | bne r | bmi r | bpl r | bvc r | bvs r | bra r => exact .charged_ok h ((Frame.refl rfl).setPc _)
  | bbr0 z r | bbr1 z r | bbr2 z r | bbr3 z r | bbr4 z r | bbr5 z r | bbr6 z r | bbr7 z r | bbs0 z r | bbs1 z r | bbs2 z r
  | bbs3 z r | bbs4 z r | bbs5 z r | bbs6 z r | bbs7 z r => exact .charged h (branchBit_frame rfl rfl)
  | jmp dst =>
    refine .charged h (jump_frame rfl fun direct => ?_)
    cases dst with
    | abs w => exact absurd rfl (direct w)
    | ind | aix => rfl
  | jsr w => exact .charged h (call_frame rfl rfl rfl)
  | rts => exact .charged h (returnSub_frame rfl rfl rfl)
  | brk => exact .charged h (enterException_frame rfl rfl rfl rfl)
  | rti => exact .charged h returnFromException_frame

/-- The meaning of an instruction and its new PC leave the clock and the opcode; then the cycles of that opcode are charged. -/
theorem Frame.charge_cycleClock (h : Frame i s u) :
    u.charge.cycleClock = (s.cycleClock + s.cfg.cycles.getD s.currentInstruction.toNat 0) % 2 ^ s.cfg.clockWidth := by
  rw [State.charge_cycleClock, h.regs.cycleClock, h.regs.currentInstruction, h.regs.cfg]
  rfl

end Sys2Proof.Machine
end

section
/-! PROOF. The frames of the registers, of the flags and of the control state (spec 10_state.md R20-R35), and the state at
reset (R38, 70_reset_and_hazards.md R271). -/

namespace Sys2Proof.Machine

/-- Settles O39: a part of the frame every instruction keeps to. -/
theorem registersChangeOnlyByTheirWriters : Obligations.RegistersChangeOnlyByTheirWriters := by
  intro i s t h
  obtain ⟨u, ⟨regs, -, -, -⟩, rfl⟩ := exec_frame h
  exact ⟨regs.reg .a, regs.reg .x, regs.reg .y, fun hsp => regs.sp.resolve_right (by simp [hsp]), regs.currentInstruction⟩

/-- Settles O40: a part of the frame every instruction keeps to; the flags at reset are evaluated. -/
theorem flagsChangeOnlyByTheirWriters : Obligations.FlagsChangeOnlyByTheirWriters := by
  refine ⟨fun i s t h => ?_, fun f => by cases f <;> rfl, rfl⟩
  obtain ⟨u, ⟨-, ⟨flags, forced, kept⟩, -, -⟩, rfl⟩ := exec_frame h
  exact ⟨flags .carry, flags .zero, flags .interrupt, flags .decimal, flags .overflow, flags .negative, forced, kept⟩

/-- Settles O41: a part of the frame every instruction keeps to, and the charge that follows it. -/
theorem instructionsLeaveTheControlState : Obligations.InstructionsLeaveTheControlState := by
  intro i s t h
  obtain ⟨u, f, rfl⟩ := exec_frame h
  have regs := f.regs
  exact ⟨regs.cfg, regs.runState, regs.stepRequest, regs.irqLine, regs.logLevel, regs.commands, regs.mode, f.effect.storeLength,
    f.quiet, regs.receiver, f.charge_cycleClock⟩

theorem resetConfig_wf : resetConfig.wf = true := by decide +kernel

/-- The reset of the machine built from the model's choices is `State.reset` (log entries 2 to 5). -/
theorem resetSequence_construct_resetConfig : resetSequence (construct resetConfig [0x00] []) = .ok () State.reset :=
  resetSequence_plain (by decide) (by decide)

/-- Settles O52: reset of the constructed machine gives that state and keeps the invariant of construction. -/
theorem resetStateIsThePoweredOnMachineAndMeetsTheInvariant : Obligations.ResetStateIsThePoweredOnMachineAndMeetsTheInvariant := by
  have reset := resetSequence_construct_resetConfig
  have rom : romWf [0x00] = true := rfl
  exact ⟨powerOn_of_reset (by rw [resetConfig_wf, rom]; rfl) reset, (resetSequence_inv (construct_inv resetConfig [] rom) reset).1,
    resetConfig_wf⟩

end Sys2Proof.Machine
end

section
/-! PROOF. The invariant (spec 20_memory.md R40, R41, 60_exceptions.md R210, R212, R258, 10_state.md R22, R32, R35): what each part
of a step keeps of it, from the decoder up to the step. -/

namespace Sys2Proof

/-- Whether a row's instructions are well-formed does not depend on the bytes after the opcode. -/
theorem decodeRow_wellFormed_congr (ext : Bool) (op b1 b2 : Byte) (hi : Nat) :
    (decodeRow op b1 b2 hi).map (Instr.wellFormed ext) = (decodeRow op 0 0 hi).map (Instr.wellFormed ext) := by
  unfold decodeRow
  split <;> rfl

theorem decodeBytes_wellFormed_congr (ext : Bool) (op b1 b2 : Byte) :
    (decodeBytes ext op b1 b2).wellFormed ext = (decodeBytes ext op 0 0).wellFormed ext := by
  have map : (decodeMap op b1 b2).wellFormed ext = (decodeMap op 0 0).wellFormed ext := by
    rw [decodeMap, ← List.getD_map (f := Instr.wellFormed ext), decodeRow_wellFormed_congr, List.getD_map, decodeMap]
  cases ext with
  | true => exact map
  | false =>
    unfold decodeBytes
    cases unnamedFallback op with
    | none => exact map
    | some i => rfl

/-- Every opcode decodes to an instruction that exists under the setting (R77, R78). -/
theorem decodeBytes_wellFormed (ext : Bool) (op b1 b2 : Byte) : (decodeBytes ext op b1 b2).wellFormed ext = true := by
  have opcodes : ∀ (ext : Bool) (op : Byte), (decodeBytes ext op 0 0).wellFormed ext = true := by decide +kernel
  rw [decodeBytes_wellFormed_congr, opcodes]

end Sys2Proof

namespace Sys2Proof.Machine

variable {i : Instr} {s t u : State}

/-- What every part of a step keeps: the invariant, the configuration and the length of the disk store. -/
structure Keeps (s t : State) : Prop where
  inv         : s.Inv → t.Inv
  cfg         : t.cfg = s.cfg
  storeLength : t.disk.store.length = s.disk.store.length

theorem Keeps.refl : Keeps s s := ⟨id, rfl, rfl⟩

theorem Keeps.trans (h : Keeps s t) (k : Keeps t u) : Keeps s u :=
  ⟨fun w => k.inv (h.inv w), k.cfg.trans h.cfg, k.storeLength.trans h.storeLength⟩

/-- A bus effect keeps the invariant where the line, the mode, SP and the clock still meet their clauses. -/
theorem BusEffect.keeps (k : BusEffect s t) (irqLine : t.irqLine = s.irqLine)
    (mode : s.cfg.wdcUnnamedExt = false → t.cpuMode = s.cpuMode) (spHeld : s.spHeld = true → t.spHeld = true)
    (clock : s.cycleClock < 2 ^ s.cfg.clockWidth → t.cycleClock < 2 ^ s.cfg.clockWidth) : Keeps s t where
  inv := fun h => by
    refine k.inv h ?_ ?_ ?_ ?_ <;> rw [k.cfg]
    · exact fun e => irqLine.trans (h.noVia e)
    · exact fun e => (mode e).trans (h.noWait e)
    · exact fun e => spHeld (h.spHeld e)
    · exact clock h.clock
  cfg := k.cfg
  storeLength := k.storeLength

/-! ## One instruction -/

theorem fetch_keeps (h : fetch s = .ok i t) : Keeps s t := by
  obtain ⟨⟨op, b1, b2, -, e⟩, k⟩ := fetch_ok h
  refine k.effect.keeps ?_ ?_ ?_ ?_ <;> rw [e]
  · rfl
  · exact fun _ => rfl
  · exact id
  · exact id

theorem fetch_wellFormed (h : fetch s = .ok i t) : i.wellFormed s.cfg.wdcUnnamedExt = true := by
  obtain ⟨⟨op, b1, b2, rfl, -⟩, -⟩ := fetch_ok h
  exact decodeBytes_wellFormed ..

/-- Completing an instruction: without the unnamed extensions WAI and STP, which alone leave Executing, are not among the
instructions (R77). -/
theorem exec_keeps (wf : i.wellFormed s.cfg.wdcUnnamedExt = true) (h : exec i s = .next t) : Keeps s t := by
  obtain ⟨u, f, rfl⟩ := exec_frame h
  refine (f.effect.addCycles _).keeps f.regs.irqLine (fun ext => ?_) (fun held => ?_) (fun _ => ?_)
  · rw [ext] at wf
    exact f.regs.mode (fun e => by rw [e] at wf; cases wf) (fun e => by rw [e] at wf; cases wf)
  · obtain ⟨-, e⟩ | ⟨-, e⟩ := f.regs.sp
    · exact e.trans held
    · exact e
  · rw [← f.regs.cfg]
    exact Nat.mod_lt _ (Nat.two_pow_pos _)

theorem runInstruction_keeps (h : runInstruction s = .next t) : Keeps s t := by
  unfold runInstruction at h
  split at h
  · rename_i i u hf
    have k := fetch_keeps hf
    exact k.trans (exec_keeps (k.cfg ▸ fetch_wellFormed hf) h)
  · cases h

/-! ## The engine -/

theorem interruptEntry_keeps (h : interruptEntry s = .ok () t) : Keeps s t := by
  obtain ⟨-, e, k⟩ := interruptEntry_ok h
  refine k.keeps ?_ ?_ ?_ ?_ <;> rw [e]
  · rfl
  · exact fun _ => rfl
  · exact fun _ => rfl
  · exact fun _ => Nat.mod_lt _ (Nat.two_pow_pos _)

/-- Timer 1's part of a tick sets its own flag or none (R241). -/
theorem Timer.tickT1_flags (t : Timer) : (t.tickT1.ifr = t.ifr ∨ t.tickT1.ifr = t.ifr ||| 0x40) ∧ t.tickT1.ier = t.ier := by
  simp only [Timer.tickT1]
  split_ifs <;> simp

/-- Timer 2's part of a tick sets its own flag or none (R241). -/
theorem Timer.tickT2_flags (t : Timer) : (t.tickT2.ifr = t.ifr ∨ t.tickT2.ifr = t.ifr ||| 0x20) ∧ t.tickT2.ier = t.ier := by
  simp only [Timer.tickT2]
  split_ifs <;> simp

theorem Timer.tick_ier (t : Timer) : t.tick.ier = t.ier := t.tickT1.tickT2_flags.2.trans t.tickT1_flags.2

/-- A tick sets only bits 6 and 5 of the flag register (R233, R241). -/
theorem Timer.tick_ifr {t : Timer} (h : t.ifr &&& 0x9F = 0) : t.tick.ifr &&& 0x9F = 0 := by
  have one : t.tickT1.ifr &&& 0x9F = 0 := by
    obtain e | e := t.tickT1_flags.1 <;> rw [e]
    · exact h
    · exact and_9F_of_set (v := 0x40) (m := 0x40) h rfl
  show t.tickT1.tickT2.ifr &&& 0x9F = 0
  obtain e | e := t.tickT1.tickT2_flags.1 <;> rw [e]
  · exact one
  · exact and_9F_of_set (v := 0x20) (m := 0x20) one rfl

theorem State.tickAll_keeps (s : State) : Keeps s s.tickAll where
  inv := fun h =>
    { h with
      ifr := by
        dsimp only [State.tickAll]
        split
        · exact Timer.tick_ifr h.ifr
        · exact h.ifr
      ier := by
        dsimp only [State.tickAll]
        split
        · exact (congrArg (· &&& 0x9F) s.timer.tick_ier).trans h.ier
        · exact h.ier
      noVia := fun via => Bool.and_eq_false_iff.2 (.inl via) }
  cfg := rfl
  storeLength := rfl

theorem State.emitAll_keeps (s : State) (es : List EngineEvent) : Keeps s (s.emitAll es) :=
  ⟨fun h => { h with delivered := (s.emitAll_emitted es).sublist h.delivered }, rfl, rfl⟩

theorem State.logAndStall_keeps (s : State) : Keeps s s.logAndStall := by
  by_cases level : s.logLevel = 0
  · rw [State.logAndStall_silent level]; exact .refl
  · obtain ⟨lines, text, e | e⟩ := State.logAndStall_logging level <;> rw [e]
    · exact (s.emitAll_keeps _).trans ⟨fun h => { h with }, rfl, rfl⟩
    · exact (s.emitAll_keeps _).trans ⟨fun h => { h with }, rfl, rfl⟩

theorem State.endStep_keeps (s : State) : Keeps s s.endStep := s.tickAll_keeps.trans s.tickAll.logAndStall_keeps

theorem State.clearRequest_keeps (s : State) : Keeps s s.clearRequest := ⟨fun h => { h with }, rfl, rfl⟩

theorem State.setMode_executing_keeps (s : State) : Keeps s (s.setMode .executing) :=
  ⟨fun h => { h with noWait := fun _ => rfl }, rfl, rfl⟩

theorem executeOne_keeps (h : executeOne s = .next t) : Keeps s t := by
  obtain ⟨u, hu, rfl⟩ := onNext_eq_next.1 h
  refine Keeps.trans ?_ u.endStep_keeps
  split at hu
  · obtain ⟨v, hv, rfl⟩ := Res.outcome_eq_next.1 hu
    exact interruptEntry_keeps hv
  · exact runInstruction_keeps hu

/-- A step of the engine, by its modes (R210). -/
theorem engineStep_keeps (h : engineStep s = .next t) : Keeps s t := by
  unfold engineStep at h
  split at h
  · cases h; exact s.logAndStall_keeps
  refine s.clearRequest_keeps.trans ?_
  split at h
  · cases h; exact s.clearRequest.logAndStall_keeps
  · split at h
    · exact (s.clearRequest.setMode_executing_keeps).trans (executeOne_keeps h)
    · cases h; exact s.clearRequest.endStep_keeps
  · exact executeOne_keeps h

/-! ## The host's commands -/

theorem State.storeByte_keeps (s : State) (a : Addr) (v : Byte) : Keeps s (s.storeByte a v) :=
  (s.storeByte_busEffect a v).keeps rfl (fun _ => rfl) id id

theorem State.sendInput_keeps (s : State) (c : Char) : Keeps s (s.sendInput c) := by
  unfold State.sendInput
  split
  · exact (s.storeByte_keeps _ _).trans (State.storeByte_keeps _ _ _)
  · exact .refl

theorem resetSequence_keeps (h : resetSequence s = .ok () t) : Keeps s t :=
  ⟨fun w => (resetSequence_inv w h).1, (resetSequence_ok h).2.effect.cfg, (resetSequence_ok h).2.effect.storeLength⟩

theorem applyCommand_keeps {c : HostCommand} (h : applyCommand c s = .ok () t) : Keeps s t := by
  cases c with
  | reset => exact resetSequence_keeps h
  | fetchMemorySnapshot | fetchProcessorSnapshot => cases h; exact s.emitAll_keeps _
  | sendInputByte ch => cases h; exact s.sendInput_keeps ch
  | setLogLevel | togglePause | step => cases h; exact ⟨fun w => { w with }, rfl, rfl⟩

theorem applyCommands_keeps {cs : List HostCommand} (h : applyCommands cs s = .ok () t) : Keeps s t := by
  induction cs generalizing s with
  | nil => cases h; exact .refl
  | cons c cs ih =>
    obtain ⟨_, u, hc, h⟩ := Res.bind_eq_ok.1 h
    exact (applyCommand_keeps hc).trans (ih h)

theorem State.takeCommands_keeps (s : State) : Keeps s s.takeCommands := ⟨fun h => { h with }, rfl, rfl⟩

/-- A step: the pending commands, then a step of the engine (R258). -/
theorem step_keeps (h : step s = .next t) : Keeps s t := by
  unfold step harnessStep at h
  split at h
  · rename_i hc
    exact (s.takeCommands_keeps.trans (applyCommands_keeps hc)).trans (engineStep_keeps h)
  · cases h

/-- Settles O53: every part of a step keeps the invariant, the configuration and the length of the disk store. -/
theorem everyStepKeepsTheInvariant : Obligations.EveryStepKeepsTheInvariant := by
  intro s t inv h
  have k := step_keeps h
  exact ⟨k.inv inv, k.cfg, k.storeLength⟩

end Sys2Proof.Machine
end

section
/-! PROOF. The bus and the stack (spec 20_memory.md R43-R54, R57, 60_exceptions.md R249, R260): the window that answers an access,
and words through the bus and through the stack. -/

namespace Sys2Proof.Machine

variable {s t u : State} {a b : Addr} {v : Byte}

/-! ## Plain addresses -/

theorem State.byteAt_storeByte (s : State) (a b : Addr) (v : Byte) :
    (s.storeByte a v).byteAt b = if b = a then v else s.byteAt b := by
  rw [State.byteAt, State.storeByte_mem, Memory.get_set]
  simp only [BitVec.toNat_inj, eq_comm (a := a)]
  rfl

/-- Settles O6: the byte stored is read back, every other byte is as before. -/
theorem busReadReturnsTheMostRecentWrite : Obligations.BusReadReturnsTheMostRecentWrite := by
  intro s a b v ha hb
  refine ⟨s.storeByte a v, busWrite_plain ha, ?_⟩
  rw [busRead_plain (s := s.storeByte a v) hb, State.byteAt_storeByte]
  rfl

theorem isPlain_of_outside {c : Config}
    (disk : c.diskAttached = true → ¬(c.diskBase.toNat ≤ a.toNat ∧ a.toNat ≤ c.diskBase.toNat + 7))
    (via : c.viaPresent = true → ¬(c.viaBase.toNat ≤ a.toNat ∧ a.toNat ≤ c.viaBase.toNat + 15))
    (out : a ≠ c.serialOut) (inp : a ≠ c.serialIn) (ready : a ≠ c.serialReady) (null : a ∉ c.nullWindows) :
    isPlain c a = true := by
  have hd : inDisk c a = false := Bool.eq_false_iff.2 fun h => disk ((inDisk_iff c a).1 h).1 ((inDisk_iff c a).1 h).2
  have hv : inVia c a = false := Bool.eq_false_iff.2 fun h => via ((inVia_iff c a).1 h).1 ((inVia_iff c a).1 h).2
  have hn : inNull c a = false := Bool.eq_false_iff.2 fun h => null ((inNull_iff c a).1 h)
  simp [isPlain, hd, hv, hn, out, inp, ready]

/-! ## The windows: with the windows apart, the order of the dispatch does not matter -/

section
variable (wf : s.cfg.wf = true)
include wf

/-- An address of the disk window (R45): it is served first, and its register select bits are its offset, for the window is aligned. -/
theorem disk_window {n : Nat} (attached : s.cfg.diskAttached = true) (hn : n < 8) (ha : a.toNat = s.cfg.diskBase.toNat + n) :
    inDisk s.cfg a = true ∧ (a &&& 7).toNat = n := by
  refine ⟨(inDisk_iff _ _).2 ⟨attached, by omega, by omega⟩, ?_⟩
  have aligned := (wf_aligned wf).1
  have bits : (a &&& 7).toNat = a.toNat % 8 := by rw [BitVec.toNat_and]; exact Nat.and_two_pow_sub_one_eq_mod _ 3
  omega

/-- An address of the VIA window (R45): no window served before it holds the address. -/
theorem via_window {n : Nat} (present : s.cfg.viaPresent = true) (hn : n < 16) (ha : a.toNat = s.cfg.viaBase.toNat + n) :
    inDisk s.cfg a = false ∧ (a ≠ s.cfg.serialOut ∧ a ≠ s.cfg.serialIn ∧ a ≠ s.cfg.serialReady) ∧ inVia s.cfg a = true ∧
      (a &&& 15).toNat = n := by
  have via : inVia s.cfg a = true := (inVia_iff _ _).2 ⟨present, by omega, by omega⟩
  have inside : ¬inVia s.cfg a = false := by simp [via]
  refine ⟨Bool.eq_false_iff.2 fun disk => inside (wf_disk_via wf disk), ⟨fun e => ?_, fun e => ?_, fun e => ?_⟩, via, ?_⟩
  · exact inside (wf_apart wf (.inl e)).2
  · exact inside (wf_apart wf (.inr (.inl e))).2
  · exact inside (wf_apart wf (.inr (.inr (.inl e)))).2
  · have aligned := (wf_aligned wf).2
    have bits : (a &&& 15).toNat = a.toNat % 16 := by rw [BitVec.toNat_and]; exact Nat.and_two_pow_sub_one_eq_mod _ 4
    omega

end

/-- Settles O7: in a well-formed configuration every test of the dispatch before the window's own fails. -/
theorem busReadAnswersByWindow : Obligations.BusReadAnswersByWindow := by
  intro s a wf
  refine ⟨fun attached n hn ha => ?_, fun ha => ?_, fun ha => ?_, fun present n hn ha => ?_, fun ha => ?_,
    fun disk via out inp ready null => busRead_plain (isPlain_of_outside disk via out inp ready null)⟩
  · obtain ⟨disk, register⟩ := disk_window wf attached hn ha
    simp only [busRead, disk, register, if_true]
  · obtain ⟨disk, -⟩ := wf_apart wf (.inr (.inl ha))
    rw [busRead, if_neg (by simp [disk]), if_pos ha, ha]
    rfl
  · obtain ⟨disk, -⟩ := wf_apart wf (a := a) (by tauto)
    obtain ⟨out, -, ready⟩ := wf_serial wf
    have inp : a ≠ s.cfg.serialIn := by
      rintro rfl
      exact ha.elim out.symm ready
    simp [busRead, disk, inp, ha, State.byteAt]
  · obtain ⟨disk, ⟨out, inp, ready⟩, via, register⟩ := via_window wf present hn ha
    simp only [busRead, disk, out, inp, ready, via, register, Bool.false_eq_true, or_self, if_false, if_true]
  · obtain ⟨disk, via⟩ := wf_apart wf (.inr (.inr (.inr ha)))
    obtain ⟨out, inp, ready⟩ := wf_null wf ha
    simp [busRead, disk, out, inp, ready, via, (inNull_iff _ _).2 ha]

/-- Settles O8: in a well-formed configuration every test of the dispatch before the window's own fails. -/
theorem busWriteGoesToItsWindow : Obligations.BusWriteGoesToItsWindow := by
  intro s a v wf
  refine ⟨fun attached n hn ha => ?_, fun ha => ?_, fun ha => ?_, fun present n hn ha => ?_, fun ha => ?_,
    fun disk via out inp ready null => busWrite_plain (isPlain_of_outside disk via out inp ready null)⟩
  · obtain ⟨disk, register⟩ := disk_window wf attached hn ha
    simp only [busWrite, disk, register, if_true]
  · obtain ⟨disk, -⟩ := wf_apart wf (.inl ha)
    rw [busWrite, if_neg (by simp [disk]), if_pos ha]
    rfl
  · obtain ⟨disk, -⟩ := wf_apart wf (a := a) (by tauto)
    obtain ⟨inp, ready, -⟩ := wf_serial wf
    have out : a ≠ s.cfg.serialOut := by
      rintro rfl
      exact ha.elim inp ready
    simp [busWrite, disk, out, ha, State.storeByte]
  · obtain ⟨disk, ⟨out, inp, ready⟩, via, register⟩ := via_window wf present hn ha
    simp only [busWrite, disk, out, inp, ready, via, register, Bool.false_eq_true, or_self, if_false, if_true]
  · obtain ⟨disk, via⟩ := wf_apart wf (.inr (.inr (.inr ha)))
    obtain ⟨out, inp, ready⟩ := wf_null wf ha
    simp [busWrite, disk, out, inp, ready, via, (inNull_iff _ _).2 ha]

/-! ## Words (R46-R48) -/

theorem zext16_toNat (b : Byte) : (zext16 b).toNat = b.toNat := BitVec.toNat_setWidth_of_le (by decide)

/-- Settles O9: the second address is the next one with its wrap, and a word is its high byte above its low byte. -/
theorem wordReadsAreLittleEndianAndWrap : Obligations.WordReadsAreLittleEndianAndWrap := by
  refine ⟨fun a b s s1 s2 lo hi hb low high => ?_, fun p a b s s1 s2 lo hi ha hb low high => ?_⟩
  · have next : b = a + 1 := BitVec.eq_of_toNat_eq (by rw [hb, BitVec.toNat_add]; rfl)
    exact ⟨word hi lo, by rw [busRead16, low, Res.bind_ok, ← next, high, Res.bind_ok], word_toNat hi lo⟩
  · have first : a = zext16 p := BitVec.eq_of_toNat_eq (by rw [ha, zext16_toNat])
    have next : b = zext16 (p + 1) := BitVec.eq_of_toNat_eq (by rw [hb, zext16_toNat, BitVec.toNat_add]; rfl)
    exact ⟨word hi lo, by rw [busRead16zp, ← first, low, Res.bind_ok, ← next, high, Res.bind_ok], word_toNat hi lo⟩

/-! ## The stack (R51-R54) -/

theorem stackAddr_toNat (sp : Byte) : (stackAddr sp).toNat = 0x0100 + sp.toNat := word_toNat 0x01 sp

/-- A push where SP holds a value: the write it makes, then SP one lower (R52). -/
theorem push_of_busWrite (held : s.spHeld = true) (h : busWrite (stackAddr s.sp) v s = .ok () t) :
    push v s = .ok () (t.setSp (s.sp - 1)) := by
  rw [push, readSp_held held, Res.bind_ok, h, Res.bind_ok]

/-- A pull where SP holds a value: SP one higher, then the read there (R53). -/
theorem pull_eq_busRead (held : s.spHeld = true) : pull s = busRead (stackAddr (s.sp + 1)) (s.setSp (s.sp + 1)) := by
  rw [pull, readSp_held held, Res.bind_ok]

/-- Settles O10: the address is that of the stack slot, and SP moves with its wrap. -/
theorem pushAndPullMoveThroughPageOne : Obligations.PushAndPullMoveThroughPageOne := by
  refine ⟨fun v a s s1 held ha h => ?_, fun v a s s1 held ha h => ?_⟩
  · have slot : a = stackAddr s.sp := BitVec.eq_of_toNat_eq (by rw [ha, stackAddr_toNat])
    have lower : s.sp - 1 = BitVec.ofNat 8 (s.sp.toNat + 255) := by bv_omega
    rw [push_of_busWrite held (slot ▸ h), lower]
    rfl
  · have higher : s.sp + 1 = BitVec.ofNat 8 (s.sp.toNat + 1) := by bv_omega
    have slot : a = stackAddr (s.sp + 1) := BitVec.eq_of_toNat_eq (by rw [ha, stackAddr_toNat, BitVec.toNat_add]; rfl)
    rw [pull_eq_busRead held, ← slot, higher]
    exact h

theorem stackAddr_inj {p q : Byte} : stackAddr p = stackAddr q ↔ p = q :=
  ⟨fun h => by simpa [stackAddr] using congrArg loByte h, congrArg stackAddr⟩

theorem push_plain (held : s.spHeld = true) (slot : isPlain s.cfg (stackAddr s.sp) = true) :
    push v s = .ok () ((s.storeByte (stackAddr s.sp) v).setSp (s.sp - 1)) :=
  push_of_busWrite held (busWrite_plain slot)

theorem pull_plain (held : s.spHeld = true) (slot : isPlain s.cfg (stackAddr (s.sp + 1)) = true) :
    pull s = .ok (s.byteAt (stackAddr (s.sp + 1))) (s.setSp (s.sp + 1)) :=
  (pull_eq_busRead held).trans (busRead_plain slot)

/-- The state with `w` stored in the two slots from SP down, high byte above low byte (R54). -/
def State.stackWord (s : State) (w : Addr) : State :=
  (s.storeByte (stackAddr s.sp) (hiByte w)).storeByte (stackAddr (s.sp - 1)) (loByte w)

theorem State.stackWord_high (s : State) (w : Addr) : (s.stackWord w).byteAt (stackAddr s.sp) = hiByte w := by
  have apart : stackAddr s.sp ≠ stackAddr (s.sp - 1) := fun e => absurd (stackAddr_inj.1 e) (by bv_omega)
  rw [State.stackWord, State.byteAt_storeByte, if_neg apart, State.byteAt_storeByte, if_pos rfl]

theorem State.stackWord_low (s : State) (w : Addr) : (s.stackWord w).byteAt (stackAddr (s.sp - 1)) = loByte w := by
  rw [State.stackWord, State.byteAt_storeByte, if_pos rfl]

/-- Pushing a word on plain slots (R54). -/
theorem pushWord_plain {w : Addr} (held : s.spHeld = true) (high : isPlain s.cfg (stackAddr s.sp) = true)
    (low : isPlain s.cfg (stackAddr (s.sp - 1)) = true) : pushWord w s = .ok () ((s.stackWord w).setSp (s.sp - 2)) := by
  have two : s.sp - 1 - 1 = s.sp - 2 := by bv_omega
  rw [pushWord, push_plain held high, Res.bind_ok, push_plain rfl low, ← two]
  rfl

/-- Pulling a word from plain slots (R54): the low byte, then the high byte one slot higher. -/
theorem pullWord_plain (held : s.spHeld = true) (low : isPlain s.cfg (stackAddr (s.sp + 1)) = true)
    (high : isPlain s.cfg (stackAddr (s.sp + 2)) = true) :
    pullWord s = .ok (word (s.byteAt (stackAddr (s.sp + 2))) (s.byteAt (stackAddr (s.sp + 1)))) (s.setSp (s.sp + 2)) := by
  have two : s.sp + 1 + 1 = s.sp + 2 := by bv_omega
  rw [← two] at high ⊢
  rw [pullWord, pull_plain held low, Res.bind_ok, pull_plain rfl high, Res.bind_ok]
  rfl

/-- Settles O11: the two slots differ, so both bytes are still there when the word is pulled. -/
theorem pushedWordsReadBackLittleEndian : Obligations.PushedWordsReadBackLittleEndian := by
  intro w s held high low
  have one : s.sp - 2 + 1 = s.sp - 1 := by bv_omega
  have two : s.sp - 2 + 2 = s.sp := by bv_omega
  refine ⟨(s.stackWord w).setSp (s.sp - 2), (s.stackWord w).setSp s.sp, pushWord_plain held high low, rfl, s.stackWord_high w,
    s.stackWord_low w, ?_, rfl, rfl⟩
  rw [pullWord_plain rfl (by rw [State.setSp_sp, one]; exact low) (by rw [State.setSp_sp, two]; exact high),
    State.setSp_sp, one, two]
  show Res.ok (word ((s.stackWord w).byteAt (stackAddr s.sp)) ((s.stackWord w).byteAt (stackAddr (s.sp - 1)))) _ = _
  rw [s.stackWord_high, s.stackWord_low, word_hiByte_loByte]
  rfl

end Sys2Proof.Machine
end

section
/-! PROOF. The frame of storage (spec 20_memory.md R44, R52, R55, 40_addressing.md R91, R106, 60_exceptions.md R250): which bytes an
instruction may change. -/

namespace Sys2Proof.Machine

variable {i : Instr} {s t u : State} {m : Memory}

/-- Byte `b` of the storage `m` is as it was at `s`, or is the serial ready flag that a read of the serial input has cleared (R250). -/
def Leaves (s : State) (m : Memory) (b : Addr) : Prop :=
  m.get b.toNat = s.mem.get b.toNat ∨ (b = s.cfg.serialReady ∧ m.get b.toNat = 0x00)

/-- All that `i` may do to storage on the way from `s` to `m`: it only reads, or it writes its destination, or it pushes on the
stack, one byte but two for JSR and three for BRK. -/
inductive StorageFrame (i : Instr) (s : State) (m : Memory) : Prop
  | reads (left : ∀ b, Leaves s m b)
  | stores {dst : Address} {ea : Addr} {s1 : State} (destination : i.destination = some dst) (pushes : i.pushes = false)
      (address : effectiveAddress dst s = .ok ea s1) (left : ∀ b, b ≠ ea → Leaves s m b)
  | pushed (destination : i.destination = none) (pushes : i.pushes = true)
      (left : ∀ b, b ≠ stackAddr s.sp → ((∃ w, i = .jsr w) ∨ i = .brk → b ≠ stackAddr (s.sp - 1)) →
        (i = .brk → b ≠ stackAddr (s.sp - 2)) → Leaves s m b)

theorem StorageFrame.of_readEffect (k : ReadEffect s t) : StorageFrame i s t.mem := .reads k.byteAt

theorem StorageFrame.retired {r : Res Unit} {n : Nat} (h : r.outcome (State.retire n) = .next t)
    (k : ∀ {u}, r = .ok () u → StorageFrame i s u.mem) : StorageFrame i s t.mem := by
  obtain ⟨u, e, rfl⟩ := Res.outcome_eq_next.1 h
  exact k (u := u) e

theorem StorageFrame.charged {r : Res Unit} (h : r.outcome State.charge = .next t)
    (k : ∀ {u}, r = .ok () u → StorageFrame i s u.mem) : StorageFrame i s t.mem := by
  obtain ⟨u, e, rfl⟩ := Res.outcome_eq_next.1 h
  exact k (u := u) e

/-- An instruction that accesses no bus leaves storage. -/
theorem StorageFrame.of_quiet (bus : i.accessesBus = false) (h : exec i s = .next t) : StorageFrame i s t.mem := by
  obtain ⟨u, f, rfl⟩ := exec_frame h
  obtain ⟨mem, -⟩ := f.quiet bus
  exact .reads fun b => .inl (congrArg (Memory.get · b.toNat) mem)

theorem storeTo_storage {dst : Address} {v : Byte} (destination : i.destination = some dst) (pushes : i.pushes = false)
    (h : storeTo dst v s = .ok () t) : StorageFrame i s t.mem := by
  obtain ⟨-, -, ea, s1, address, left⟩ := storeTo_ok h
  exact .stores destination pushes address left

theorem modifyMem_storage {dst : Address} {f : Byte → Byte} {g : Byte → Byte → Byte} (destination : i.destination = some dst)
    (pushes : i.pushes = false) (h : modifyMem dst f g s = .ok () t) : StorageFrame i s t.mem := by
  obtain ⟨-, -, ea, s1, address, left⟩ := modifyMem_ok h
  exact .stores destination pushes address left

theorem modifyTarget_storage {dst : Target} {f : Byte → Byte} {g : Byte → Byte → Byte}
    (destination : ∀ a, dst = .mem a → i.destination = some a) (pushes : i.pushes = false) (h : modifyTarget dst f g s = .ok () t) :
    StorageFrame i s t.mem := by
  cases dst with
  | acc => cases h; exact .reads fun _ => .inl rfl
  | mem a => exact modifyMem_storage (destination a rfl) pushes h

theorem push_storage {v : Byte} (destination : i.destination = none) (pushes : i.pushes = true) (h : push v s = .ok () t) :
    StorageFrame i s t.mem := by
  obtain ⟨-, -, -, left⟩ := push_ok h
  exact .pushed destination pushes fun b first _ _ => .inl (left b first)

theorem call_storage {w : Addr} (h : call w s = .ok () t) : StorageFrame (.jsr w) s t.mem := by
  obtain ⟨-, -, -, left⟩ := call_ok h
  exact .pushed rfl rfl fun b first second _ => .inl (left b first (second (.inl ⟨w, rfl⟩)))

theorem enterException_storage {ret : Addr} {p : Byte} (h : enterException ret p s = .ok () t) : StorageFrame .brk s t.mem := by
  obtain ⟨-, -, -, left⟩ := enterException_ok h
  have two : s.sp - 1 - 1 = s.sp - 2 := by bv_omega
  exact .pushed rfl rfl fun b first second third => left b first (second (.inr rfl)) (two ▸ third rfl)

theorem plp_readEffect (h : ((pull s).bind fun p s1 => .ok () (s1.setP p)) = .ok () t) : ReadEffect s t := by
  obtain ⟨p, u, pulled, h⟩ := Res.bind_eq_ok.1 h
  cases h
  obtain ⟨-, -, k⟩ := pull_ok pulled
  exact k.setP p

/-- Every instruction keeps to the frame of storage. -/
theorem exec_storage (h : exec i s = .next t) : StorageFrame i s t.mem := by
  cases i with
  | lda src | ldx src | ldy src =>
    refine .retired h fun e => ?_
    obtain ⟨-, -, k⟩ := load_ok e
    exact .of_readEffect k
  | adc src | sbc src =>
    refine .retired h fun e => ?_
    obtain ⟨-, -, -, k⟩ := addSource_ok e
    exact .of_readEffect k
  | and src | ora src | eor src =>
    refine .retired h fun e => ?_
    obtain ⟨-, -, k⟩ := logic_ok e
    exact .of_readEffect k
  | cmp src | cpx src | cpy src =>
    refine .retired h fun e => ?_
    obtain ⟨-, -, k⟩ := compareReg_ok e
    exact .of_readEffect k
  | bit src =>
    refine .retired h fun e => ?_
    obtain ⟨-, -, k⟩ := bitTest_ok e
    exact .of_readEffect k
  | sta dst | stx dst | sty dst | stz dst => exact .retired h (storeTo_storage rfl rfl)
  | inc dst | dec dst | asl dst | lsr dst | rol dst | ror dst =>
    exact .retired h (modifyTarget_storage (fun _ e => by rw [e]; rfl) rfl)
  | trb dst | tsb dst => exact .retired h (modifyMem_storage rfl rfl)
  | rmb0 z | rmb1 z | rmb2 z | rmb3 z | rmb4 z | rmb5 z | rmb6 z | rmb7 z | smb0 z | smb1 z | smb2 z | smb3 z | smb4 z | smb5 z
  | smb6 z | smb7 z => exact .retired h (modifyMem_storage rfl rfl)
  | pha | php | phx | phy => exact .retired h (push_storage rfl rfl)
  | pla | plx | ply =>
    refine .retired h fun e => ?_
    obtain ⟨-, -, -, k⟩ := pullReg_ok e
    exact .of_readEffect k
  | plp => exact .retired h fun e => .of_readEffect (plp_readEffect e)
  | bbr0 z r | bbr1 z r | bbr2 z r | bbr3 z r | bbr4 z r | bbr5 z r | bbr6 z r | bbr7 z r | bbs0 z r | bbs1 z r | bbs2 z r
  | bbs3 z r | bbs4 z r | bbs5 z r | bbs6 z r | bbs7 z r =>
    refine .charged h fun e => ?_
    obtain ⟨-, -, k⟩ := branchBit_ok e
    exact .of_readEffect k
  | jmp dst => exact .charged h fun e => .of_readEffect (jump_ok e).2
  | jsr w => exact .charged h call_storage
  | rts =>
    refine .charged h fun e => ?_
    obtain ⟨-, -, k⟩ := returnSub_ok e
    exact .of_readEffect k
  | brk => exact .charged h enterException_storage
  | rti =>
    refine .charged h fun e => ?_
    obtain ⟨-, -, k⟩ := returnFromException_ok e
    exact .of_readEffect k
  | inx | iny | dex | dey | bcc | bcs | beq | bne | bmi | bpl | bvc | bvs | bra | tax | tay | txa | tya | tsx | txs | clc | sec | cli
  | sei | cld | sed | clv | nop | nop1 | nop2 | nop3 | wai | stp => exact .of_quiet rfl h

/-- Settles O42: what each clause says of the three ways an instruction may change storage. -/
theorem storageChangesOnlyAtTheDestination : Obligations.StorageChangesOnlyAtTheDestination := by
  intro i s t h
  cases exec_storage h with
  | reads left => exact ⟨fun _ _ b => left b, fun _ _ _ _ _ b _ => left b, fun _ b _ _ _ => left b⟩
  | stores destination pushes address left =>
    refine ⟨fun none => ?_, fun dst ea s1 hd ha => ?_, fun hp => ?_⟩
    · simp [none] at destination
    · obtain rfl := Option.some.inj (destination.symm.trans hd)
      cases address.symm.trans ha
      exact left
    · simp [hp] at pushes
  | pushed destination pushes left =>
    refine ⟨fun _ hp => ?_, fun dst ea s1 hd => ?_, fun _ => left⟩
    · simp [hp] at pushes
    · simp [hd] at destination

end Sys2Proof.Machine
end

section
/-! PROOF. The encoding (spec 30_encoding.md R70-R78): an opcode byte fixes a form and the bytes after it fill the form in, so that
what is said of a form is said of its opcode, and checked over the 256 of them. -/

namespace Sys2Proof

/-! ## Filling a form in -/

/-- The operand of the same mode read from `b1`, `b2` (R71, R72). -/
def Address.withBytes (b1 b2 : Byte) : Address → Address
  | .zp _ => .zp b1
  | .zpx _ => .zpx b1
  | .zpy _ => .zpy b1
  | .izx _ => .izx b1
  | .izy _ => .izy b1
  | .izp _ => .izp b1
  | .abs _ => .abs (word b2 b1)
  | .absx _ => .absx (word b2 b1)
  | .absy _ => .absy (word b2 b1)

/-- The source operand of the same form read from `b1`, `b2`. -/
def Source.withBytes (b1 b2 : Byte) : Source → Source
  | .imm _ => .imm b1
  | .mem a => .mem (a.withBytes b1 b2)

/-- The read-modify-write operand of the same form read from `b1`, `b2`. -/
def Target.withBytes (b1 b2 : Byte) : Target → Target
  | .acc => .acc
  | .mem a => .mem (a.withBytes b1 b2)

/-- The jump operand of the same form read from `b1`, `b2`. -/
def JumpOperand.withBytes (b1 b2 : Byte) : JumpOperand → JumpOperand
  | .abs _ => .abs (word b2 b1)
  | .ind _ => .ind (word b2 b1)
  | .aix _ => .aix (word b2 b1)

/-- The instruction of the same form read from `b1`, `b2`: an instruction that reads no operand byte is itself. -/
def Instr.withBytes (b1 b2 : Byte) : Instr → Instr
  | .lda s => .lda (s.withBytes b1 b2) | .ldx s => .ldx (s.withBytes b1 b2) | .ldy s => .ldy (s.withBytes b1 b2)
  | .adc s => .adc (s.withBytes b1 b2) | .sbc s => .sbc (s.withBytes b1 b2) | .cmp s => .cmp (s.withBytes b1 b2)
  | .cpx s => .cpx (s.withBytes b1 b2) | .cpy s => .cpy (s.withBytes b1 b2) | .and s => .and (s.withBytes b1 b2)
  | .ora s => .ora (s.withBytes b1 b2) | .eor s => .eor (s.withBytes b1 b2) | .bit s => .bit (s.withBytes b1 b2)
  | .sta d => .sta (d.withBytes b1 b2) | .stx d => .stx (d.withBytes b1 b2) | .sty d => .sty (d.withBytes b1 b2)
  | .stz d => .stz (d.withBytes b1 b2) | .trb d => .trb (d.withBytes b1 b2) | .tsb d => .tsb (d.withBytes b1 b2)
  | .inc d => .inc (d.withBytes b1 b2) | .dec d => .dec (d.withBytes b1 b2) | .asl d => .asl (d.withBytes b1 b2)
  | .lsr d => .lsr (d.withBytes b1 b2) | .rol d => .rol (d.withBytes b1 b2) | .ror d => .ror (d.withBytes b1 b2)
  | .rmb0 _ => .rmb0 b1 | .rmb1 _ => .rmb1 b1 | .rmb2 _ => .rmb2 b1 | .rmb3 _ => .rmb3 b1
  | .rmb4 _ => .rmb4 b1 | .rmb5 _ => .rmb5 b1 | .rmb6 _ => .rmb6 b1 | .rmb7 _ => .rmb7 b1
  | .smb0 _ => .smb0 b1 | .smb1 _ => .smb1 b1 | .smb2 _ => .smb2 b1 | .smb3 _ => .smb3 b1
  | .smb4 _ => .smb4 b1 | .smb5 _ => .smb5 b1 | .smb6 _ => .smb6 b1 | .smb7 _ => .smb7 b1
  | .bcc _ => .bcc b1 | .bcs _ => .bcs b1 | .beq _ => .beq b1 | .bne _ => .bne b1 | .bmi _ => .bmi b1
  | .bpl _ => .bpl b1 | .bvc _ => .bvc b1 | .bvs _ => .bvs b1 | .bra _ => .bra b1
  | .bbr0 _ _ => .bbr0 b1 b2 | .bbr1 _ _ => .bbr1 b1 b2 | .bbr2 _ _ => .bbr2 b1 b2 | .bbr3 _ _ => .bbr3 b1 b2
  | .bbr4 _ _ => .bbr4 b1 b2 | .bbr5 _ _ => .bbr5 b1 b2 | .bbr6 _ _ => .bbr6 b1 b2 | .bbr7 _ _ => .bbr7 b1 b2
  | .bbs0 _ _ => .bbs0 b1 b2 | .bbs1 _ _ => .bbs1 b1 b2 | .bbs2 _ _ => .bbs2 b1 b2 | .bbs3 _ _ => .bbs3 b1 b2
  | .bbs4 _ _ => .bbs4 b1 b2 | .bbs5 _ _ => .bbs5 b1 b2 | .bbs6 _ _ => .bbs6 b1 b2 | .bbs7 _ _ => .bbs7 b1 b2
  | .jmp d => .jmp (d.withBytes b1 b2)
  | .jsr _ => .jsr (word b2 b1)
  | i => i

/-- What two instructions of one form have alike. -/
structure SameForm (i j : Instr) : Prop where
  opcode       : i.opcode = j.opcode
  length       : i.length = j.length
  operandReads : i.operandReads = j.operandReads
  wellFormed   : ∀ ext, i.wellFormed ext = j.wellFormed ext

theorem Instr.withBytes_sameForm (b1 b2 : Byte) (i : Instr) : SameForm (i.withBytes b1 b2) i := by
  cases i with
  | lda src | ldx src | ldy src | adc src | sbc src | cmp src | cpx src | cpy src | and src | ora src | eor src | bit src =>
    rcases src with _ | a
    · exact ⟨rfl, rfl, rfl, fun _ => rfl⟩
    · cases a <;> exact ⟨rfl, rfl, rfl, fun _ => rfl⟩
  | sta dst | stx dst | sty dst | stz dst | trb dst | tsb dst => cases dst <;> exact ⟨rfl, rfl, rfl, fun _ => rfl⟩
  | inc dst | dec dst | asl dst | lsr dst | rol dst | ror dst =>
    rcases dst with _ | a
    · exact ⟨rfl, rfl, rfl, fun _ => rfl⟩
    · cases a <;> exact ⟨rfl, rfl, rfl, fun _ => rfl⟩
  | jmp dst => cases dst <;> exact ⟨rfl, rfl, rfl, fun _ => rfl⟩
  | _ => exact ⟨rfl, rfl, rfl, fun _ => rfl⟩

/-! ## An opcode fixes a form (R78) -/

theorem decodeRow_withBytes (op b1 b2 : Byte) (hi : Nat) :
    decodeRow op b1 b2 hi = (decodeRow op 0 0 hi).map (Instr.withBytes b1 b2) := by
  unfold decodeRow
  split <;> rfl

theorem decodeMap_withBytes (op b1 b2 : Byte) : decodeMap op b1 b2 = (decodeMap op 0 0).withBytes b1 b2 := by
  rw [decodeMap, decodeRow_withBytes, decodeMap, ← List.getD_map (f := Instr.withBytes b1 b2)]
  rfl

/-- The no-operations of R77 read no operand byte. -/
theorem unnamedFallback_withBytes {op : Byte} {i : Instr} (h : unnamedFallback op = some i) (b1 b2 : Byte) : i.withBytes b1 b2 = i := by
  unfold unnamedFallback at h
  split at h
  · cases h; rfl
  split at h
  · cases h; rfl
  split at h <;> cases h
  rfl

theorem decodeBytes_withBytes (ext : Bool) (op b1 b2 : Byte) :
    decodeBytes ext op b1 b2 = (decodeBytes ext op 0 0).withBytes b1 b2 := by
  cases ext with
  | true => exact decodeMap_withBytes op b1 b2
  | false =>
    simp only [decodeBytes, Bool.false_eq_true, if_false]
    cases h : unnamedFallback op with
    | none => exact decodeMap_withBytes op b1 b2
    | some i => exact (unnamedFallback_withBytes h b1 b2).symm

theorem decodeBytes_sameForm (ext : Bool) (op b1 b2 : Byte) : SameForm (decodeBytes ext op b1 b2) (decodeBytes ext op 0 0) :=
  decodeBytes_withBytes ext op b1 b2 ▸ Instr.withBytes_sameForm b1 b2 _

theorem decodeBytes_opcode (ext : Bool) (op b1 b2 : Byte) : (decodeBytes ext op b1 b2).opcode = some op := by
  have opcodes : ∀ (ext : Bool) (op : Byte), (decodeBytes ext op 0 0).opcode = some op := by decide +kernel
  rw [(decodeBytes_sameForm ext op b1 b2).opcode, opcodes]

theorem decodeBytes_length_bounds (ext : Bool) (op b1 b2 : Byte) :
    1 ≤ (decodeBytes ext op b1 b2).length ∧ (decodeBytes ext op b1 b2).length ≤ 3 := by
  have opcodes : ∀ (ext : Bool) (op : Byte), 1 ≤ (decodeBytes ext op 0 0).length ∧ (decodeBytes ext op 0 0).length ≤ 3 := by
    decide +kernel
  rw [(decodeBytes_sameForm ext op b1 b2).length]
  exact opcodes ext op

/-- Settles O3: the form, which the opcode fixes, has the length and the operand reads; the counts are over the 256 opcodes. -/
theorem lengthDependsOnTheOpcodeAlone : Obligations.LengthDependsOnTheOpcodeAlone := by
  refine ⟨fun ext op b1 b2 => ?_, by decide +kernel⟩
  have form := decodeBytes_sameForm ext op b1 b2
  exact ⟨form.length, form.operandReads, decodeBytes_length_bounds ext op b1 b2⟩

/-! ## The operand bytes of a form (R71, R72) -/

theorem Address.withBytes_take (b1 b2 : Byte) (a : Address) : (a.withBytes b1 b2).encode.take a.bytes = [b1, b2].take a.bytes := by
  cases a with
  | abs w | absx w | absy w => simp [Address.withBytes, Address.encode, Address.bytes]
  | _ => rfl

theorem Source.withBytes_take (b1 b2 : Byte) (s : Source) : (s.withBytes b1 b2).encode.take s.bytes = [b1, b2].take s.bytes := by
  cases s with
  | imm v => rfl
  | mem a => exact a.withBytes_take b1 b2

theorem Target.withBytes_take (b1 b2 : Byte) (d : Target) : (d.withBytes b1 b2).encode.take d.bytes = [b1, b2].take d.bytes := by
  cases d with
  | acc => rfl
  | mem a => exact a.withBytes_take b1 b2

/-- A form filled in from two bytes gives back those of them that it reads. -/
theorem Instr.withBytes_take (b1 b2 : Byte) (i : Instr) :
    (i.withBytes b1 b2).operandBytes.take i.operandReads = [b1, b2].take i.operandReads := by
  cases i with
  | lda src | ldx src | ldy src | adc src | sbc src | cmp src | cpx src | cpy src | and src | ora src | eor src | bit src =>
    exact src.withBytes_take b1 b2
  | sta dst | stx dst | sty dst | stz dst | trb dst | tsb dst => exact dst.withBytes_take b1 b2
  | inc dst | dec dst | asl dst | lsr dst | rol dst | ror dst => exact dst.withBytes_take b1 b2
  | jmp dst => cases dst <;> exact (Address.abs 0).withBytes_take b1 b2
  | jsr w => exact (Address.abs w).withBytes_take b1 b2
  | _ => rfl

/-- Settles O2: the form of an opcode is well-formed and has that opcode, and is filled in from the bytes it reads. -/
theorem decodedInstructionsAreWellFormedAndReencode : Obligations.DecodedInstructionsAreWellFormedAndReencode := by
  intro ext op b1 b2
  refine ⟨decodeBytes_wellFormed ext op b1 b2, decodeBytes_opcode ext op b1 b2, ?_⟩
  rw [decodeBytes_withBytes]
  exact Instr.withBytes_take b1 b2 (decodeBytes ext op 0 0)

/-! ## Decoding an encoding -/

/-- An operand is read back from its own bytes; a byte past the end of the list is 0x00, as in `decode`. -/
theorem Address.withBytes_encode (a : Address) (rest : List Byte) :
    a.withBytes ((a.encode ++ rest).getD 0 0) ((a.encode ++ rest).getD 1 0) = a := by
  cases a with
  | abs w | absx w | absy w => simp [Address.withBytes, Address.encode]
  | _ => rfl

theorem Source.withBytes_encode (s : Source) (rest : List Byte) :
    s.withBytes ((s.encode ++ rest).getD 0 0) ((s.encode ++ rest).getD 1 0) = s := by
  cases s with
  | imm v => rfl
  | mem a => exact congrArg Source.mem (a.withBytes_encode rest)

theorem Target.withBytes_encode (d : Target) (rest : List Byte) :
    d.withBytes ((d.encode ++ rest).getD 0 0) ((d.encode ++ rest).getD 1 0) = d := by
  cases d with
  | acc => rfl
  | mem a => exact congrArg Target.mem (a.withBytes_encode rest)

/-- A form filled in from an instruction's own operand bytes is that instruction, whatever follows them. -/
theorem Instr.withBytes_operandBytes (i : Instr) (rest : List Byte) :
    i.withBytes ((i.operandBytes ++ rest).getD 0 0) ((i.operandBytes ++ rest).getD 1 0) = i := by
  cases i with
  | lda src | ldx src | ldy src | adc src | sbc src | cmp src | cpx src | cpy src | and src | ora src | eor src | bit src =>
    simp only [Instr.withBytes, Instr.operandBytes, Source.withBytes_encode]
  | sta dst | stx dst | sty dst | stz dst | trb dst | tsb dst =>
    simp only [Instr.withBytes, Instr.operandBytes, Address.withBytes_encode]
  | inc dst | dec dst | asl dst | lsr dst | rol dst | ror dst =>
    simp only [Instr.withBytes, Instr.operandBytes, Target.withBytes_encode]
  | jmp dst => cases dst <;> simp [Instr.withBytes, JumpOperand.withBytes, Instr.operandBytes]
  | jsr w => simp [Instr.withBytes, Instr.operandBytes]
  | _ => rfl

theorem Instr.length_eq_operandBytes (i : Instr) : i.length = i.operandBytes.length + 1 := by
  rw [Nat.add_comm]
  cases i with
  | lda src | ldx src | ldy src | adc src | sbc src | cmp src | cpx src | cpy src | and src | ora src | eor src | bit src =>
    exact congrArg (1 + ·) (Laws.Layout.source_bytes_le src).1.symm
  | sta dst | stx dst | sty dst | stz dst | trb dst | tsb dst => exact congrArg (1 + ·) (Laws.Layout.address_bytes_le dst).1.symm
  | inc dst | dec dst | asl dst | lsr dst | rol dst | ror dst => exact congrArg (1 + ·) (Laws.Layout.target_bytes_le dst).1.symm
  | jmp dst => cases dst <;> rfl
  | _ => rfl

/-- Whether an instruction is one of the three no-operations that carry their opcode byte (R76, R77). -/
def Instr.isUndefined : Instr → Bool
  | .nop1 _ | .nop2 _ | .nop3 _ => true
  | _ => false

/-- Every well-formed instruction has an opcode: a form without one exists under neither setting. -/
theorem Instr.opcode_of_wellFormed {ext : Bool} {i : Instr} (wf : i.wellFormed ext = true) : ∃ op, i.opcode = some op := by
  suffices absent : i.opcode = none → i.wellFormed ext = false by
    cases h : i.opcode with
    | none => rw [absent h] at wf; cases wf
    | some op => exact ⟨op, rfl⟩
  intro h
  cases i with
  | lda src | ldx src | ldy src | adc src | sbc src | cmp src | cpx src | cpy src | and src | ora src | eor src =>
    rcases src with _ | a
    · cases h
    · cases a <;> cases h <;> rfl
  | bit src =>
    rcases src with _ | a
    · cases h
    · cases a <;> cases h <;> exact Bool.and_false ext
  | sta dst | stx dst | sty dst | stz dst | trb dst | tsb dst => cases dst <;> cases h <;> rfl
  | inc dst | dec dst | asl dst | lsr dst | rol dst | ror dst =>
    rcases dst with _ | a
    · cases h
    · cases a <;> cases h <;> rfl
  | jmp dst => cases dst <;> cases h
  | _ => cases h

/-- The opcode map has the form of every instruction with an opcode of its own at that opcode (R74). -/
theorem decodeMap_of_opcode {op : Byte} {i : Instr} (named : i.isUndefined = false) (h : i.opcode = some op) (b1 b2 : Byte) :
    decodeMap op b1 b2 = i.withBytes b1 b2 := by
  cases i with
  | nop1 | nop2 | nop3 => cases named
  | lda src | ldx src | ldy src | adc src | sbc src | cmp src | cpx src | cpy src | and src | ora src | eor src | bit src =>
    rcases src with _ | a
    · cases h; rfl
    · cases a <;> cases h <;> rfl
  | sta dst | stx dst | sty dst | stz dst | trb dst | tsb dst => cases dst <;> cases h <;> rfl
  | inc dst | dec dst | asl dst | lsr dst | rol dst | ror dst =>
    rcases dst with _ | a
    · cases h; rfl
    · cases a <;> cases h <;> rfl
  | jmp dst => cases dst <;> cases h <;> rfl
  | _ => cases h; rfl

/-- With `WDC_UNNAMED_EXT` false an instruction of the opcode map that exists is at no unnamed opcode (R77). -/
theorem unnamedFallback_of_wellFormed {op b1 b2 : Byte} (wf : (decodeMap op b1 b2).wellFormed false = true) :
    unnamedFallback op = none := by
  have opcodes : ∀ op : Byte, (decodeMap op 0 0).wellFormed false = true → unnamedFallback op = none := by decide +kernel
  rw [decodeMap_withBytes, (Instr.withBytes_sameForm b1 b2 _).wellFormed] at wf
  exact opcodes op wf

/-- The no-operation that carries `op` is what `op` decodes to, where it exists (R76, R77). -/
theorem decodeBytes_of_undefined {ext : Bool} {op : Byte} {i : Instr} (undefined : i.isUndefined = true)
    (wf : i.wellFormed ext = true) (h : i.opcode = some op) : decodeBytes ext op 0 0 = i := by
  have opcodes : ∀ (ext : Bool) (op : Byte), ∀ j ∈ [Instr.nop1 op, .nop2 op, .nop3 op],
      j.wellFormed ext = true → decodeBytes ext op 0 0 = j := by
    decide +kernel
  cases i with
  | nop1 | nop2 | nop3 =>
    cases h
    exact opcodes ext op _ (by simp) wf
  | _ => cases undefined

/-- The opcode of a well-formed instruction decodes to its form, filled in from the bytes that follow. -/
theorem decodeBytes_of_opcode {ext : Bool} {op : Byte} {i : Instr} (wf : i.wellFormed ext = true) (h : i.opcode = some op)
    (b1 b2 : Byte) : decodeBytes ext op b1 b2 = i.withBytes b1 b2 := by
  cases undefined : i.isUndefined with
  | true => rw [decodeBytes_withBytes, decodeBytes_of_undefined undefined wf h]
  | false =>
    have map := decodeMap_of_opcode undefined h b1 b2
    cases ext with
    | true => exact map
    | false =>
      have mapped : (decodeMap op b1 b2).wellFormed false = true := by rw [map, (i.withBytes_sameForm b1 b2).wellFormed, wf]
      rw [decodeBytes, unnamedFallback_of_wellFormed mapped]
      exact map

/-- Decoding a list that holds the whole of the instruction at its head. -/
theorem decode_append {ext : Bool} {op : Byte} {i : Instr} {bs rest : List Byte}
    (h : decodeBytes ext op ((bs ++ rest).getD 0 0) ((bs ++ rest).getD 1 0) = i) (len : i.length = bs.length + 1) :
    decode ext (op :: bs ++ rest) = .ok (i, rest) := by
  simp only [List.cons_append, decode, h, len]
  rw [if_neg (by simp), Nat.add_sub_cancel, List.drop_left]

/-- Settles O1: the opcode gives back the form, and the operand bytes fill it in. -/
theorem encodeThenDecodeIsIdentity : Obligations.EncodeThenDecodeIsIdentity := by
  intro ext i wf
  obtain ⟨op, h⟩ := Instr.opcode_of_wellFormed wf
  refine ⟨op :: i.operandBytes, by rw [encode, h]; rfl, i.length_eq_operandBytes.symm, fun rest => ?_⟩
  exact decode_append ((decodeBytes_of_opcode wf h _ _).trans (i.withBytes_operandBytes rest)) i.length_eq_operandBytes

/-! ## The unnamed opcodes (R77) and sample words (R71, R74) -/

theorem unnamedFallback_eq_none :
    ∀ op : Byte, op.toNat % 16 ≠ 7 → op ∉ [0x89, 0x34, 0x3C, 0x1A, 0x3A, 0xCB, 0xDB] → unnamedFallback op = none := by
  decide +kernel

/-- Settles O4: the RMB and SMB columns bit by bit, the seven others one by one, and no fallback elsewhere. -/
theorem unnamedOpcodesFollowTheirParameter : Obligations.UnnamedOpcodesFollowTheirParameter := by
  intro b1 b2
  refine ⟨fun n => ?_, rfl, rfl, rfl, rfl, rfl, rfl, rfl, rfl, rfl, rfl, rfl, rfl, rfl, rfl, fun op column h => ?_⟩
  · fin_cases n <;> exact ⟨rfl, rfl, rfl, rfl⟩
  · rw [decodeBytes, unnamedFallback_eq_none op column h]
    rfl

/-- Settles O5: each word is decoded in turn. -/
theorem sampleWordsDecodeToTheirInstructions : Obligations.SampleWordsDecodeToTheirInstructions := by
  unfold Obligations.SampleWordsDecodeToTheirInstructions
  decide +kernel

end Sys2Proof
end

section
/-! PROOF. The addressing modes, the fetch and the jump (spec 40_addressing.md R90, R94-R104, R106, 44_control.md R172): which address
an operand designates, and which bytes are read to find it. -/

namespace Sys2Proof.Machine

variable {s s1 s2 t : State} {a w : Addr} {v op b1 b2 lo hi : Byte}

/-! ## Reads leave the registers -/

theorem busRead_pc (h : busRead a s = .ok v t) : t.pc = s.pc := (congrArg State.pc (busRead_only h) :)

theorem busRead16zp_y {z : Byte} (h : busRead16zp z s = .ok w t) : t.y = s.y := (congrArg State.y (busRead16zp_only h) :)

/-! ## Effective addresses (R94-R102) -/

theorem zext16_add_toNat (z r : Byte) : (zext16 (z + r)).toNat = (z.toNat + r.toNat) % 256 := by
  rw [zext16_toNat, BitVec.toNat_add]

theorem add_zext16_toNat (w : Addr) (r : Byte) : (w + zext16 r).toNat = (w.toNat + r.toNat) % 65536 := by
  rw [BitVec.toNat_add, zext16_toNat]

theorem effectiveAddress_izy {z : Byte} (h : busRead16zp z s = .ok w t) :
    effectiveAddress (.izy z) s = .ok (w + zext16 s.y) t := by
  rw [effectiveAddress, h, Res.bind_ok, busRead16zp_y h]

/-- Settles O12: page 0 is the zero extension of a byte sum, and the other modes add 16-bit words or read a pointer. -/
theorem addressingModesComputeTheirAddress : Obligations.AddressingModesComputeTheirAddress := by
  intro s z w
  refine ⟨⟨_, rfl, zext16_toNat z⟩, ⟨_, rfl, zext16_add_toNat z s.x⟩, ⟨_, rfl, zext16_add_toNat z s.y⟩, rfl,
    ⟨_, rfl, add_zext16_toNat w s.x⟩, ⟨_, rfl, add_zext16_toNat w s.y⟩, fun _ _ h => h, fun _ _ h => h,
    fun base _ h => ⟨_, effectiveAddress_izy h, add_zext16_toNat base s.y⟩, ?_, ?_⟩
  · simp [Address.bytes]
  · simp [Address.bytes]

/-! ## The fetch (R90, R106) -/

theorem readOperandBytes_one (h : busRead (s.pc + 1) s = .ok b1 s1) : readOperandBytes 1 s = .ok (b1, 0) s1 := by
  rw [readOperandBytes, h, Res.bind_ok]

theorem readOperandBytes_two (h1 : busRead (s.pc + 1) s = .ok b1 s1) (h2 : busRead (s.pc + 2) s1 = .ok b2 s2) :
    readOperandBytes 2 s = .ok (b1, b2) s2 := by
  simp only [readOperandBytes, h1, Res.bind_ok, h2]

/-- Once the opcode is read, the fetch is the reads of the operand bytes of its form. -/
theorem fetch_of_reads (opcode : busRead s.pc s = .ok op s1)
    (operands : readOperandBytes (operandReadsOf s.cfg.wdcUnnamedExt op) (s1.latchOpcode op) = .ok (b1, b2) t) :
    fetch s = .ok (decodeBytes s.cfg.wdcUnnamedExt op b1 b2) t := by
  rw [fetch, opcode, Res.bind_ok, operands, Res.bind_ok]

/-- Settles O13: one case per number of operand bytes; PC is at the opcode throughout. -/
theorem fetchReadsTheOpcodeThenTheOperandBytes : Obligations.FetchReadsTheOpcodeThenTheOperandBytes := by
  refine ⟨fun s s1 op opcode => ?_, fun op => ⟨rfl, rfl, rfl, rfl⟩⟩
  have pc : (s1.latchOpcode op).pc = s.pc := (busRead_pc opcode :)
  refine ⟨fun none => fetch_of_reads opcode ?_, fun one b1 s2 first => fetch_of_reads opcode ?_,
    fun two b1 s2 b2 s3 first second => fetch_of_reads opcode ?_⟩
  · rw [none]; rfl
  · rw [one]; exact readOperandBytes_one (pc ▸ first)
  · rw [two]; exact readOperandBytes_two (pc ▸ first) (pc ▸ second)

/-! ## The jump (R103, R104, R172) -/

/-- A word read whose two reads complete (R47). -/
theorem busRead16_of_reads (low : busRead a s = .ok lo s1) (high : busRead (a + 1) s1 = .ok hi s2) :
    busRead16 a s = .ok (word hi lo) s2 := by
  rw [busRead16, low, Res.bind_ok, high, Res.bind_ok]

theorem exec_jmp_of_target {dst : JumpOperand} (h : jumpTarget dst s = .ok w t) : exec (.jmp dst) s = .next (State.jumped w t) := by
  show (jump dst s).outcome State.charge = _
  rw [jump, h]
  rfl

/-- Settles O30: each form by its target; a pointer is followed by a word read, whose high byte is at the next address. -/
theorem jumpGoesToItsTarget : Obligations.JumpGoesToItsTarget := by
  refine ⟨fun w => ⟨rfl, rfl, rfl, fun o => rfl⟩, fun s w => ⟨exec_jmp_of_target rfl, ?_, ?_⟩⟩
  · intro lo s1 hi s2 low high
    exact exec_jmp_of_target (dst := .ind w) (busRead16_of_reads low high)
  · intro ptr lo s1 hi s2 pointer low high
    subst pointer
    exact exec_jmp_of_target (dst := .aix w) (busRead16_of_reads low high)

end Sys2Proof.Machine
end

section
/-! PROOF. Every instruction completes where SP holds a value and no disk transfer is active (spec 40_addressing.md R90,
60_exceptions.md R219, R225, R226): what an access needs in order not to fault, carried through the operations and the arms of
`exec`. Only JSR and BRK access the bus again after a write; their accesses stay off the disk's data port. -/

namespace Sys2Proof.Machine

variable {i : Instr} {s t : State} {pc a : Addr} {v : Byte} {n : Nat} {α β : Type} {P Q : State → Prop}

/-! ## Bus accesses that no transfer can stop -/

theorem registerSelect_toNat (a : Addr) : (a &&& 7).toNat = a.toNat % 8 := by
  rw [BitVec.toNat_and]; exact Nat.and_two_pow_sub_one_eq_mod _ 3

/-- Only the data port, register 0, can fault a read (R219). -/
theorem diskRead_off_port (s : State) (hn : n ≠ 0) : ∃ v t, diskRead n s = .ok v t ∧ t.disk = s.disk := by
  unfold diskRead
  split
  · exact ⟨_, _, rfl, rfl⟩
  split
  · exact absurd rfl hn
  · exact ⟨_, _, rfl, rfl⟩
  · exact ⟨_, _, rfl, rfl⟩

theorem busRead_off_port (s : State) (off : a.toNat % 8 ≠ 0) : ∃ v t, busRead a s = .ok v t ∧ t.disk = s.disk := by
  unfold busRead
  split
  · exact diskRead_off_port s (registerSelect_toNat a ▸ off)
  split
  · exact ⟨_, _, rfl, rfl⟩
  split
  · exact ⟨_, _, rfl, rfl⟩
  split
  · exact timerRead_completes _ s
  split <;> exact ⟨_, _, rfl, rfl⟩

/-- A write faults only at the data port with a command active, and only register 7 starts a command (R226, R230). -/
theorem diskWrite_completes (v : Byte) (h : s.disk.command = .none ∨ n ≠ 0) :
    ∃ t, diskWrite n v s = .ok () t ∧ (n ≠ 7 → t.disk.command = s.disk.command) := by
  unfold diskWrite
  split
  · exact ⟨_, rfl, fun _ => rfl⟩
  split
  · have idle := h.resolve_right (fun hn => hn rfl)
    have ignored : diskWriteData v s = .ok () s := if_pos (by simp [idle])
    exact ⟨s, ignored, fun _ => rfl⟩
  case h_6 => exact ⟨_, rfl, fun hn => absurd rfl hn⟩
  all_goals exact ⟨_, rfl, fun _ => rfl⟩

theorem busWrite_completes (v : Byte) (h : s.disk.command = .none ∨ a.toNat % 8 ≠ 0) :
    ∃ t, busWrite a v s = .ok () t ∧ (a.toNat % 8 ≠ 7 → t.disk.command = s.disk.command) := by
  unfold busWrite
  split
  · rw [← registerSelect_toNat] at h ⊢
    exact diskWrite_completes v h
  split
  · exact ⟨_, rfl, fun _ => rfl⟩
  split
  · exact ⟨_, rfl, fun _ => rfl⟩
  split
  · exact ⟨_, rfl, fun _ => rfl⟩
  split <;> exact ⟨_, rfl, fun _ => rfl⟩

/-! ## Operations that complete -/

/-- The operation answers a value and leaves a state that meets `P`. -/
def Completes (r : Res α) (P : State → Prop) : Prop := ∃ v t, r = .ok v t ∧ P t

theorem Completes.ok (v : α) (h : P s) : Completes (.ok v s) P := ⟨v, s, rfl, h⟩

theorem Completes.bind {r : Res α} {k : α → State → Res β} (h : Completes r P) (hk : ∀ v t, P t → Completes (k v t) Q) :
    Completes (r.bind k) Q := by
  obtain ⟨v, t, rfl, ht⟩ := h
  exact hk v t ht

/-- Nothing stops the next access or use of SP (R219), and PC is still `pc`. -/
structure Ready (pc : Addr) (s : State) : Prop where
  held : s.spHeld = true
  idle : s.disk.command = .none
  pc   : s.pc = pc

/-- PC is still `pc`: all that is left to know after the last access of an instruction that does not write it. -/
def AtPc (pc : Addr) (s : State) : Prop := s.pc = pc

theorem Ready.setP (h : Ready pc s) (p : Byte) : Ready pc (s.setP p) := ⟨h.held, h.idle, h.pc⟩

/-! ## Reads: the state stays ready -/

theorem busRead_ready (a : Addr) (h : Ready pc s) : Completes (busRead a s) (Ready pc) := by
  obtain ⟨v, t, e, d⟩ := busRead_completes a h.idle
  refine ⟨v, t, e, ?_, d ▸ h.idle, ?_⟩ <;> rw [busRead_only e]
  · exact h.held
  · exact h.pc

theorem busRead16_ready (a : Addr) (h : Ready pc s) : Completes (busRead16 a s) (Ready pc) :=
  (busRead_ready a h).bind fun _ _ h => (busRead_ready _ h).bind fun _ _ h => .ok _ h

theorem busRead16zp_ready (p : Byte) (h : Ready pc s) : Completes (busRead16zp p s) (Ready pc) :=
  (busRead_ready _ h).bind fun _ _ h => (busRead_ready _ h).bind fun _ _ h => .ok _ h

theorem effectiveAddress_ready (m : Address) (h : Ready pc s) : Completes (effectiveAddress m s) (Ready pc) := by
  cases m with
  | zp | zpx | zpy | abs | absx | absy => exact .ok _ h
  | izx | izp => exact busRead16zp_ready _ h
  | izy => exact (busRead16zp_ready _ h).bind fun _ _ h => .ok _ h

theorem readSource_ready (src : Source) (h : Ready pc s) : Completes (readSource src s) (Ready pc) := by
  cases src with
  | imm v => exact .ok _ h
  | mem m => exact (effectiveAddress_ready m h).bind fun ea _ h => busRead_ready ea h

theorem jumpTarget_ready (dst : JumpOperand) (h : Ready pc s) : Completes (jumpTarget dst s) (Ready pc) := by
  cases dst with
  | abs => exact .ok _ h
  | ind | aix => exact busRead16_ready _ h

theorem pull_ready (h : Ready pc s) : Completes (pull s) (Ready pc) := by
  rw [pull_eq_busRead h.held]
  exact busRead_ready _ ⟨rfl, h.idle, h.pc⟩

theorem pullWord_ready (h : Ready pc s) : Completes (pullWord s) (Ready pc) :=
  (pull_ready h).bind fun _ _ h => (pull_ready h).bind fun _ _ h => .ok _ h

/-! ## The meanings: PC stays -/

theorem busWrite_atPc (a : Addr) (v : Byte) (h : Ready pc s) : Completes (busWrite a v s) (AtPc pc) := by
  obtain ⟨t, e, -⟩ := busWrite_completes (a := a) v (.inl h.idle)
  refine ⟨(), t, e, ?_⟩
  rw [busWrite_only e]
  exact h.pc

theorem storeTo_atPc (dst : Address) (v : Byte) (h : Ready pc s) : Completes (storeTo dst v s) (AtPc pc) :=
  (effectiveAddress_ready dst h).bind fun ea _ h => busWrite_atPc ea v h

theorem modifyMem_atPc (dst : Address) (f : Byte → Byte) (g : Byte → Byte → Byte) (h : Ready pc s) :
    Completes (modifyMem dst f g s) (AtPc pc) :=
  (effectiveAddress_ready dst h).bind fun ea _ h =>
    (busRead_ready ea h).bind fun m _ h => (busWrite_atPc ea (f m) h).bind fun _ _ h => .ok _ h

theorem modifyTarget_atPc (dst : Target) (f : Byte → Byte) (g : Byte → Byte → Byte) (h : Ready pc s) :
    Completes (modifyTarget dst f g s) (AtPc pc) := by
  cases dst with
  | acc => exact .ok _ h.pc
  | mem a => exact modifyMem_atPc a f g h

theorem setRegNZ_atPc (r : Reg) (v : Byte) (h : Ready pc s) : AtPc pc (s.setRegNZ r v) := (s.setRegNZ_pc r v).trans h.pc

theorem load_atPc (r : Reg) (src : Source) (h : Ready pc s) : Completes (load r src s) (AtPc pc) :=
  (readSource_ready src h).bind fun m _ h => .ok _ (setRegNZ_atPc r m h)

theorem logic_atPc (op : Byte → Byte → Byte) (src : Source) (h : Ready pc s) : Completes (logic op src s) (AtPc pc) :=
  (readSource_ready src h).bind fun _ _ h => .ok _ (setRegNZ_atPc .a _ h)

theorem writeAlu_atPc (r : AluResult) (h : Ready pc s) : Completes (writeAlu r s) (AtPc pc) := by
  unfold writeAlu
  split <;> exact .ok _ h.pc

theorem addSource_atPc (f : Byte → State → AluResult) (src : Source) (h : Ready pc s) : Completes (addSource f src s) (AtPc pc) :=
  (readSource_ready src h).bind fun m t h => writeAlu_atPc (f m t) h

theorem compareReg_atPc (r : Reg) (src : Source) (h : Ready pc s) : Completes (compareReg r src s) (AtPc pc) :=
  (readSource_ready src h).bind fun _ _ h => .ok _ h.pc

theorem bitTest_atPc (src : Source) (h : Ready pc s) : Completes (bitTest src s) (AtPc pc) :=
  (readSource_ready src h).bind fun _ _ h => .ok _ h.pc

theorem push_atPc (v : Byte) (h : Ready pc s) : Completes (push v s) (AtPc pc) := by
  obtain ⟨_, t, e, ht⟩ := busWrite_atPc (stackAddr s.sp) v h
  exact ⟨(), _, push_of_busWrite h.held e, ht⟩

theorem pullReg_atPc (r : Reg) (h : Ready pc s) : Completes (pullReg r s) (AtPc pc) :=
  (pull_ready h).bind fun v _ h => .ok _ (setRegNZ_atPc r v h)

/-! ## Two and three pushes in a row -/

/-- SP holds a value, and the next `n` slots down from it are not the data port of an active command: a push that starts a command
wrote register 7, which lies seven slots above the data port. -/
def ClearDown (n : Nat) (s : State) : Prop := s.spHeld = true ∧ (s.disk.command = .none ∨ n ≤ s.sp.toNat % 8)

theorem push_clearDown (v : Byte) (hn : n ≤ 6) (h : ClearDown (n + 1) s) : Completes (push v s) (ClearDown n) := by
  obtain ⟨held, clear⟩ := h
  have slot : (stackAddr s.sp).toNat % 8 = s.sp.toNat % 8 := by rw [stackAddr_toNat]; omega
  have lower : s.sp.toNat % 8 ≠ 0 → (s.sp - 1).toNat % 8 = s.sp.toNat % 8 - 1 := by bv_omega
  obtain ⟨t, e, kept⟩ := busWrite_completes (a := stackAddr s.sp) v (clear.imp_right (by omega))
  rw [slot] at kept
  refine ⟨(), _, push_of_busWrite held e, rfl, ?_⟩
  show t.disk.command = .none ∨ n ≤ (s.sp - 1).toNat % 8
  by_cases seven : s.sp.toNat % 8 = 7
  · exact .inr (by omega)
  · exact clear.imp (kept seven).trans (by omega)

theorem pushWord_clearDown (w : Addr) (hn : n ≤ 5) (h : ClearDown (n + 2) s) : Completes (pushWord w s) (ClearDown n) :=
  (push_clearDown _ (by omega) h).bind fun _ _ h => push_clearDown _ (by omega) h

theorem Ready.clearDown (h : Ready pc s) (n : Nat) : ClearDown n s := ⟨h.held, .inl h.idle⟩

/-- The two bytes of the vector are at the disk's registers 6 and 7, if at any. -/
theorem busRead16_breakVector_completes (s : State) : Completes (busRead16 breakVector s) fun _ => True := by
  obtain ⟨lo, t, e, -⟩ := busRead_off_port (a := breakVector) s (by decide)
  obtain ⟨hi, u, e', -⟩ := busRead_off_port (a := breakVector + 1) t (by decide)
  exact ⟨word hi lo, u, busRead16_of_reads e e', trivial⟩

theorem enterException_completes (ret : Addr) (p : Byte) (h : Ready pc s) : Completes (enterException ret p s) fun _ => True :=
  (pushWord_clearDown ret (by decide) (h.clearDown 3)).bind fun _ _ h =>
    (push_clearDown p (by decide) h).bind fun _ _ _ => (busRead16_breakVector_completes _).bind fun _ _ _ => .ok _ trivial

theorem call_completes (w : Addr) (h : Ready pc s) : Completes (call w s) fun _ => True :=
  (pushWord_clearDown _ (by decide) (h.clearDown 2)).bind fun _ _ _ => .ok _ trivial

theorem returnFromException_completes (h : Ready pc s) : Completes (returnFromException s) fun _ => True :=
  (pull_ready h).bind fun p _ h => (pullWord_ready (h.setP p)).bind fun _ _ _ => .ok _ trivial

/-! ## The dispatch -/

/-- `i` has a next state, with PC past the bytes of `i` where `i` does not write PC (R90 step 5). -/
def Advances (i : Instr) (s : State) : Prop :=
  ∃ t, exec i s = .next t ∧ (i.writesPc = false → t.pc = s.pc + BitVec.ofNat 16 i.length)

theorem Advances.retired {r : Res Unit} (arm : exec i s = r.outcome (State.retire i.length)) (h : Completes r (AtPc s.pc)) :
    Advances i s := by
  obtain ⟨_, t, rfl, ht⟩ := h
  exact ⟨t.retire i.length, arm, fun _ => congrArg (· + BitVec.ofNat 16 i.length) ht⟩

theorem Advances.retired_ok (arm : exec i s = (Res.ok () t).outcome (State.retire i.length)) (h : AtPc s.pc t) : Advances i s :=
  .retired arm (.ok _ h)

theorem Advances.charged {r : Res Unit} (writes : i.writesPc = true) (arm : exec i s = r.outcome State.charge)
    (h : Completes r fun _ => True) : Advances i s := by
  obtain ⟨_, t, rfl, -⟩ := h
  exact ⟨t.charge, arm, fun w => by simp [writes] at w⟩

/-- Every instruction completes from a ready state. -/
theorem exec_advances (i : Instr) (h : Ready s.pc s) : Advances i s := by
  cases i with
  | lda src | ldx src | ldy src => exact .retired rfl (load_atPc _ src h)
  | adc src | sbc src => exact .retired rfl (addSource_atPc _ src h)
  | and src | ora src | eor src => exact .retired rfl (logic_atPc _ src h)
  | cmp src | cpx src | cpy src => exact .retired rfl (compareReg_atPc _ src h)
  | bit src => exact .retired rfl (bitTest_atPc src h)
  | sta dst | stx dst | sty dst | stz dst => exact .retired rfl (storeTo_atPc dst _ h)
  | inc dst | dec dst | asl dst | lsr dst | rol dst | ror dst => exact .retired rfl (modifyTarget_atPc dst _ _ h)
  | trb dst | tsb dst => exact .retired rfl (modifyMem_atPc dst _ _ h)
  | rmb0 z | rmb1 z | rmb2 z | rmb3 z | rmb4 z | rmb5 z | rmb6 z | rmb7 z | smb0 z | smb1 z | smb2 z | smb3 z | smb4 z | smb5 z
  | smb6 z | smb7 z => exact .retired rfl (modifyMem_atPc (.zp z) _ _ h)
  | inx | iny | dex | dey | tax | tay | txa | tya => exact .retired_ok rfl (setRegNZ_atPc _ _ h)
  | tsx => exact .retired rfl (by rw [readSp_held h.held, Res.bind_ok]; exact .ok _ (setRegNZ_atPc .x s.sp h))
  | txs | clc | sec | cli | sei | cld | sed | clv | nop | nop1 | nop2 | nop3 | wai | stp => exact .retired_ok rfl h.pc
  | pha | php | phx | phy => exact .retired rfl (push_atPc _ h)
  | pla | plx | ply => exact .retired rfl (pullReg_atPc _ h)
  | plp => exact .retired rfl ((pull_ready h).bind fun _ _ h => .ok _ h.pc)
  | bcc r | bcs r | beq r | bne r | bmi r | bpl r | bvc r | bvs r | bra r => exact .charged rfl rfl (.ok () trivial)
  | bbr0 z r | bbr1 z r | bbr2 z r | bbr3 z r | bbr4 z r | bbr5 z r | bbr6 z r | bbr7 z r | bbs0 z r | bbs1 z r | bbs2 z r
  | bbs3 z r | bbs4 z r | bbs5 z r | bbs6 z r | bbs7 z r =>
    exact .charged rfl rfl ((busRead_ready (zext16 z) h).bind fun _ _ _ => .ok _ trivial)
  | jmp dst => exact .charged rfl rfl ((jumpTarget_ready dst h).bind fun _ _ _ => .ok _ trivial)
  | jsr w => exact .charged rfl rfl (call_completes w h)
  | rts => exact .charged rfl rfl ((pullWord_ready h).bind fun _ _ _ => .ok _ trivial)
  | brk => exact .charged rfl rfl (enterException_completes _ _ h)
  | rti => exact .charged rfl rfl (returnFromException_completes h)

/-- Settles O43: from a ready state every arm of `exec` completes, and the frame of every instruction has its cycles. -/
theorem everyInstructionCompletesWhereNoTransferIsActive : Obligations.EveryInstructionCompletesWhereNoTransferIsActive := by
  intro i s _ held idle
  obtain ⟨t, e, pc⟩ := exec_advances i ⟨held, idle, rfl⟩
  obtain ⟨u, f, rfl⟩ := exec_frame e
  exact ⟨_, e, pc, f.charge_cycleClock⟩

end Sys2Proof.Machine
end

section
/-! PROOF. Loads and stores (spec 41_load_store.md R110-R116): the next state of an instruction whose accesses complete. -/

namespace Sys2Proof.Machine

variable {i : Instr} {s s1 s2 t : State} {ea : Addr} {m v : Byte} {n : Nat}

/-- `retire` is the frame that the statements write out field by field (R90 steps 5 and 6). -/
theorem State.retire_eq_framed (n : Nat) (s : State) : s.retire n = s.framed n := rfl

/-- An arm that does not write PC: where its operation completes, the frame is applied to the state the operation leaves. -/
theorem exec_eq_framed {r : Res Unit} (arm : exec i s = r.outcome (State.retire n)) (completes : r = .ok () t) :
    exec i s = .next (t.framed n) := by
  rw [arm, completes, Res.outcome_ok, State.retire_eq_framed]

/-- A load whose operand byte can be read (R110-R112). -/
theorem load_of_readSource {src : Source} (r : Reg) (read : readSource src s = .ok m s1) :
    load r src s = .ok () (s1.setRegNZ r m) := by
  rw [load, read, Res.bind_ok]

/-- A store whose address resolves and takes the write (R113-R116). -/
theorem storeTo_of_busWrite {dst : Address} (address : effectiveAddress dst s = .ok ea s1) (write : busWrite ea v s1 = .ok () s2) :
    storeTo dst v s = .ok () s2 := by
  rw [storeTo, address, Res.bind_ok, write]

/-- Settles O14: each arm is a load of its register. -/
theorem loadsWriteTheirRegisterAndNZ : Obligations.LoadsWriteTheirRegisterAndNZ := by
  refine ⟨fun v w => ⟨rfl, rfl, rfl⟩, fun src s s1 m read => ⟨?lda, ?ldx, ?ldy⟩⟩
  case lda => exact exec_eq_framed rfl (load_of_readSource .a read)
  case ldx => exact exec_eq_framed rfl (load_of_readSource .x read)
  case ldy => exact exec_eq_framed rfl (load_of_readSource .y read)

/-- Settles O15: each arm is a store of its byte, taken from the state before the address is computed. -/
theorem storesWriteTheirByteAndNoFlag : Obligations.StoresWriteTheirByteAndNoFlag := by
  refine ⟨fun v w => ⟨rfl, rfl, rfl, rfl⟩, fun dst s s1 s2 ea address => ?_⟩
  have store {i : Instr} {v : Byte} (arm : exec i s = (storeTo dst v s).outcome (State.retire (1 + dst.bytes)))
      (write : busWrite ea v s1 = .ok () s2) : exec i s = .next (s2.framed (1 + dst.bytes)) :=
    exec_eq_framed arm (storeTo_of_busWrite address write)
  exact ⟨store rfl, store rfl, store rfl, store rfl⟩

end Sys2Proof.Machine
end

section
/-! PROOF. The flag helpers and the adders (spec 42_arithmetic.md R120-R123, R126): bytes read as numbers and as flags. -/

namespace Sys2Proof.Machine

/-- A status byte is its six flags (R24) and bits 4 and 5. -/
theorem statusByte_ext {p q : Byte} (flags : ∀ f, getFlag f p = getFlag f q) (reserved : p &&& 0x30 = q &&& 0x30) : p = q := by
  obtain ⟨bit4, bit5⟩ := (and30_eq p q).1 reserved
  refine BitVec.eq_of_getLsbD_eq fun i hi => ?_
  interval_cases i
  · exact flags .carry
  · exact flags .zero
  · exact flags .interrupt
  · exact flags .decimal
  · exact bit4
  · exact bit5
  · exact flags .overflow
  · exact flags .negative

theorem getFlag_and (f : Flag) (p q : Byte) : getFlag f (p &&& q) = (getFlag f p && getFlag f q) := BitVec.getLsbD_and

/-- Two status bytes that agree on every flag of a mask without bits 4 and 5 agree under the mask. -/
theorem and_mask_ext {p q mask : Byte} (flags : ∀ f, getFlag f mask = true → getFlag f p = getFlag f q)
    (reserved : p &&& 0x30 = q &&& 0x30 ∨ mask &&& 0x30 = 0) : p &&& mask = q &&& mask := by
  refine statusByte_ext (fun f => ?_) ?_
  · cases masked : getFlag f mask with
    | false => simp only [getFlag_and, masked, Bool.and_false]
    | true => simp only [getFlag_and, flags f masked]
  · rcases reserved with same | outside
    · rw [BitVec.and_assoc, BitVec.and_assoc, BitVec.and_comm mask, ← BitVec.and_assoc, ← BitVec.and_assoc, same]
    · rw [BitVec.and_assoc, BitVec.and_assoc, outside]
      exact BitVec.and_zero.trans BitVec.and_zero.symm

/-- A flag of a mask is none of the flags outside it. -/
theorem ne_of_getFlag {f g : Flag} {mask : Byte} (inside : getFlag f mask = true) (outside : getFlag g mask = false) : f ≠ g := by
  rintro rfl
  exact absurd (outside.symm.trans inside) (by decide)

theorem getLsbD_seven (v : Byte) : v.getLsbD 7 = decide (128 ≤ v.toNat) := BitVec.msb_eq_decide v

/-- Settles O16: each flag is read back, and the bits kept by the mask 0x4D are C, D, I and V. -/
theorem flagHelperSetsZeroNegativeAndTheReservedBits : Obligations.FlagHelperSetsZeroNegativeAndTheReservedBits := by
  intro v p
  refine ⟨?zero, ?negative, setNZ_and30 v p, and_mask_ext ?kept (.inr rfl)⟩
  case zero =>
    rw [getFlag_setNZ, if_neg nofun, if_pos rfl, Bool.eq_iff_iff, beq_iff_eq, decide_eq_true_iff, BitVec.toNat_eq]
    rfl
  case negative => rw [getFlag_setNZ, if_pos rfl, getLsbD_seven]
  case kept =>
    intro f masked
    rw [getFlag_setNZ, if_neg (ne_of_getFlag masked rfl), if_neg (ne_of_getFlag masked rfl)]

/-- What a comparison leaves of P (R126): V, I, D and bits 4 and 5. -/
theorem compareFlags_and7C (c : CmpFlags) (r m p : Byte) : compareFlags c r m p &&& 0x7C = p &&& 0x7C :=
  and_mask_ext (fun f masked => getFlag_compareFlags c f r m p
    ⟨ne_of_getFlag masked rfl, ne_of_getFlag masked rfl, ne_of_getFlag masked rfl⟩) (.inl (compareFlags_and30 c r m p))

theorem carry_compareFlags (c : CmpFlags) (r m p : Byte) : getFlag .carry (compareFlags c r m p) = decide (m.toNat ≤ r.toNat) := by
  simp [compareFlags]

theorem zero_compareFlags (c : CmpFlags) (r m p : Byte) : getFlag .zero (compareFlags c r m p) = (r == m) := by
  simp [compareFlags]

theorem negative_compareFlags_exclusive (r m p : Byte) :
    getFlag .negative (compareFlags .exclusive r m p) = decide (r.toNat < m.toNat) := by
  simp [compareFlags]

theorem negative_compareFlags_silicon (r m p : Byte) : getFlag .negative (compareFlags .silicon r m p) = (r - m).getLsbD 7 := by
  simp [compareFlags]

/-- Settles O20: C and Z are the order and the equality under either setting; N is the reading of its setting. -/
theorem compareHelperSetsNegativeZeroCarry : Obligations.CompareHelperSetsNegativeZeroCarry := by
  intro r m p
  simp only [carry_compareFlags, zero_compareFlags, negative_compareFlags_exclusive, negative_compareFlags_silicon,
    compareFlags_and7C, and_self, and_true, true_and, ge_iff_le]
  refine ⟨?equal, ?greater, ?less, ?difference⟩
  case equal => rintro rfl; simp
  case greater =>
    intro gt
    have ne : r ≠ m := by rintro rfl; exact absurd gt (lt_irrefl _)
    simp [ne, gt.le]
  case less =>
    intro lt
    have ne : r ≠ m := by rintro rfl; exact absurd lt (lt_irrefl _)
    simp [ne, lt]
  case difference => rw [Bool.eq_iff_iff, beq_iff_eq, decide_eq_true_iff, sub_eq_zero]

/-- The test of bit 7 by which the adders compare signs (R121-R123). -/
theorem and80_ne_zero (v : Byte) : (v &&& 0x80 != 0) = v.msb := by
  have bit : v &&& 0x80 = if v.msb then 0x80 else 0 := BitVec.and_twoPow v 7
  rw [bit]
  cases v.msb <;> rfl

theorem addBin_value_toNat (a m : Byte) (c : Bool) : (addBin a m c).value.toNat = (a.toNat + m.toNat + c.toNat) % 256 :=
  BitVec.toNat_ofNat _ 8

/-- Overflow is read off the three signs (R121). -/
theorem addBin_overflow (a m : Byte) (c : Bool) :
    (addBin a m c).overflow = (a.msb == m.msb && (addBin a m c).value.msb != a.msb) := by
  have signs : (addBin a m c).overflow = ((a.msb ^^ (addBin a m c).value.msb) && (m.msb ^^ (addBin a m c).value.msb)) :=
    (and80_ne_zero _).trans (by rw [BitVec.msb_and, BitVec.msb_xor, BitVec.msb_xor]; rfl)
  rw [signs]
  cases a.msb <;> cases m.msb <;> cases (addBin a m c).value.msb <;> rfl

/-- Settles O17: the signed reading of overflow is arithmetic on the three bytes as numbers. -/
theorem binaryAdderIsANineBitSum : Obligations.BinaryAdderIsANineBitSum := by
  intro a m c
  refine ⟨addBin_value_toNat a m c, rfl, addBin_overflow a m c, ?_⟩
  have value := addBin_value_toNat a m c
  have := a.isLt
  have := m.isLt
  have := c.toNat_le
  rw [addBin_overflow, Bool.and_eq_true, beq_iff_eq, bne_iff_ne, BitVec.msb_eq_decide, BitVec.msb_eq_decide, BitVec.msb_eq_decide,
    value, BitVec.toInt_eq_toNat_cond, BitVec.toInt_eq_toNat_cond, decide_eq_decide, ne_eq, decide_eq_decide]
  split <;> split <;> omega

/-- The low digit of a byte. -/
theorem and_0F (n : Nat) : n &&& 0x0F = n % 16 := Nat.and_two_pow_sub_one_eq_mod n 4

/-- The high digit of a byte, in its place. -/
theorem and_F0 {n : Nat} (byte : n < 256) : n &&& 0xF0 = n / 16 * 16 := by
  show n &&& (2 ^ 4 - 1) * 2 ^ 4 = n / 2 ^ 4 * 2 ^ 4
  refine Nat.eq_of_testBit_eq fun i => ?_
  rw [Nat.testBit_and, Nat.testBit_mul_two_pow, Nat.testBit_mul_two_pow, Nat.testBit_two_pow_sub_one, Nat.testBit_div_two_pow]
  by_cases low : 4 ≤ i
  · have above (high : 8 ≤ i) : n.testBit i = false :=
      Nat.testBit_lt_two_pow (byte.trans_le (Nat.pow_le_pow_right Nat.two_pos high))
    rw [Nat.sub_add_cancel low]
    by_cases high : 8 ≤ i
    · simp [above high]
    · simp [low, show i - 4 < 4 by omega]
  · simp [low]

/-- The sign test of the decimal adders (R122, R123). -/
theorem and80_xor_ne_zero (a m : Byte) : ((a ^^^ m) &&& 0x80 != 0) = (a.msb != m.msb) := by rw [and80_ne_zero, BitVec.msb_xor]

/-- The steps of R122, the masks and the corrections read as arithmetic. -/
theorem addDec_steps {a m : Byte} {c : Bool} {l t : Nat} (low : l = a.toNat % 16 + m.toNat % 16 + c.toNat)
    (combined : t = (if l < 10 then l else 16 + (l + 6) % 16) + a.toNat / 16 * 16 + m.toNat / 16 * 16) :
    addDec a m c =
      { value := BitVec.ofNat 8 (if t < 160 then t else t + 96), carry := decide (160 ≤ t),
        overflow := a.msb == m.msb && decide (128 ≤ t ∧ t < 384) } := by
  have like : ((a ^^^ m) &&& 0x80 == 0) = (a.msb == m.msb) := Bool.not_inj (and80_xor_ne_zero a m)
  have corrected : (if l ≥ 10 then 0x10 ||| (l + 6) % 16 else l) = if l < 10 then l else 16 + (l + 6) % 16 := by
    have carried : 0x10 ||| (l + 6) % 16 = 16 + (l + 6) % 16 :=
      (Nat.two_pow_add_eq_or_of_lt (i := 4) (Nat.mod_lt (l + 6) (by decide)) 1).symm
    simp only [carried, ge_iff_le, ← Nat.not_lt, ite_not]
  simp only [addDec, and_0F, and_F0 a.isLt, and_F0 m.isLt, ← low, corrected, ← combined, like]
  by_cases big : 160 ≤ t
  · simp [big, Nat.not_lt.2 big, show 128 ≤ t by omega]
  · simp [big, Nat.not_le.1 big, show t < 384 by omega]

/-- The steps of R123, the masks read as arithmetic. -/
theorem subDec_steps {a m : Byte} {c : Bool} {l w : Int} (low : l = 15 + a.toNat % 16 - m.toNat % 16 + c.toNat)
    (high : w = (if l < 16 then 0 else 16) + 240 + a.toNat / 16 * 16 - m.toNat / 16 * 16) :
    subDec a m c =
      { value := BitVec.ofInt 8 ((if w < 256 then w - 96 else w) + (if l < 16 then l - 6 else l - 16)), carry := decide (256 ≤ w),
        overflow := a.msb != m.msb && decide (128 ≤ w ∧ w < 384) } := by
  simp only [subDec, and_0F, and_F0 a.isLt, and_F0 m.isLt, Nat.cast_mul, Nat.cast_ofNat, Int.natCast_ediv, Int.natCast_emod,
    ← low, ← high, and80_xor_ne_zero]
  by_cases big : 256 ≤ w
  · simp [big, Int.not_lt.2 big, show 128 ≤ w by omega]
  · simp [big, Int.not_le.1 big, show w < 384 by omega]

theorem bcd_toNat {hi lo : Nat} (high : hi < 10) (low : lo < 10) : (bcd hi lo).toNat = 16 * hi + lo := by
  rw [bcd, BitVec.toNat_ofNat]
  omega

/-- The decimal correction (R122, R123): 0x60 more takes a number of two digits and a carry to its last two digits. -/
theorem bcd_of_lt_200 {n : Nat} (h : n < 200) :
    bcd (n % 100 / 10) (n % 10) = BitVec.ofNat 8 (if n < 100 then 16 * (n / 10) + n % 10 else 16 * (n / 10) + n % 10 + 96) := by
  refine BitVec.eq_of_toNat_eq ?_
  rw [bcd_toNat (by omega) (Nat.mod_lt n (by decide)), BitVec.toNat_ofNat]
  split <;> omega

/-- On decimal digits the adder of R122 adds decimal numbers. -/
theorem addDec_bcd {ah al mh ml : Nat} (c : Bool) (hah : ah < 10) (hal : al < 10) (hmh : mh < 10) (hml : ml < 10)
    {n : Nat} (sum : n = 10 * ah + al + (10 * mh + ml) + c.toNat) :
    (addDec (bcd ah al) (bcd mh ml) c).value = bcd (n % 100 / 10) (n % 10) ∧
    (addDec (bcd ah al) (bcd mh ml) c).carry = decide (100 ≤ n) := by
  have carryIn := c.toNat_le
  obtain ⟨l, low⟩ : ∃ l, l = al + ml + c.toNat := ⟨_, rfl⟩
  have combined : 16 * (n / 10) + n % 10 = (if l < 10 then l else 16 + (l + 6) % 16) + ah * 16 + mh * 16 := by split <;> omega
  have corrects : 16 * (n / 10) + n % 10 < 160 ↔ n < 100 := by omega
  rw [addDec_steps (l := l) (t := 16 * (n / 10) + n % 10) (by rw [bcd_toNat hah hal, bcd_toNat hmh hml]; omega)
    (by rw [bcd_toNat hah hal, bcd_toNat hmh hml]; omega), bcd_of_lt_200 (by omega), decide_eq_decide]
  exact ⟨by simp only [corrects], by omega⟩

/-- On decimal digits the subtractor of R123 subtracts decimal numbers, a negative difference modulo 100. -/
theorem subDec_bcd {ah al mh ml : Nat} (c : Bool) (hah : ah < 10) (hal : al < 10) (hmh : mh < 10) (hml : ml < 10)
    {n : Nat} (difference : n = 100 + (10 * ah + al) + c.toNat - (10 * mh + ml) - 1) :
    (subDec (bcd ah al) (bcd mh ml) c).value = bcd (n % 100 / 10) (n % 10) ∧
    (subDec (bcd ah al) (bcd mh ml) c).carry = decide (100 ≤ n) := by
  have carryIn := c.toNat_le
  obtain ⟨l, low⟩ : ∃ l : Int, l = 15 + al - ml + c.toNat := ⟨_, rfl⟩
  have high : (16 * (n / 10) + 96 : Int) = (if l < 16 then 0 else 16) + 240 + ah * 16 - mh * 16 := by split <;> omega
  have lowDigit : (if l < 16 then l - 6 else l - 16) = (n % 10 : Int) := by split <;> omega
  rw [subDec_steps (l := l) (w := 16 * (n / 10) + 96) (by rw [bcd_toNat hah hal, bcd_toNat hmh hml]; omega)
    (by rw [bcd_toNat hah hal, bcd_toNat hmh hml]; omega), lowDigit, bcd_of_lt_200 (by omega), ← BitVec.ofInt_natCast,
    decide_eq_decide]
  refine ⟨congrArg (BitVec.ofInt 8) ?_, by omega⟩
  split <;> split <;> omega

/-- Settles O18: the steps on any bytes, and on decimal digits the sums they compute. -/
theorem decimalAddersAreBcdArithmetic : Obligations.DecimalAddersAreBcdArithmetic := by
  refine ⟨fun a m c l t low combined => ?add, fun a m c l w low high => ?sub, fun ah al mh ml c hah hal hmh hml => ?digits⟩
  case add => rw [addDec_steps low combined, BitVec.toNat_ofNat]; exact ⟨rfl, rfl, rfl⟩
  case sub => rw [subDec_steps low high]; exact ⟨rfl, rfl, rfl⟩
  case digits =>
    obtain ⟨sum, carry⟩ := addDec_bcd c hah hal hmh hml rfl
    obtain ⟨difference, noBorrow⟩ := subDec_bcd c hah hal hmh hml rfl
    exact ⟨sum, carry, difference, noBorrow.trans (decide_eq_decide.2 (by omega))⟩

end Sys2Proof.Machine
end

section
/-! PROOF. Additions, comparisons, increments and decrements (spec 42_arithmetic.md R124, R125, R127-R135): the next state of an
instruction whose accesses complete. -/

namespace Sys2Proof.Machine

variable {i : Instr} {s s1 s2 s3 : State} {ea : Addr} {m : Byte} {n : Nat} {src : Source}

/-- Settles O21: each arm compares its register, which the read of the operand leaves. -/
theorem comparesChangeFlagsOnly : Obligations.ComparesChangeFlagsOnly := by
  refine ⟨fun v w => ⟨rfl, rfl, rfl⟩, fun src s s1 m read => ?_⟩
  have compare (r : Reg) : compareReg r src s = .ok () (s1.setP (compareFlags s.cfg.cmpFlags (s.reg r) m s.p)) := by
    have only := (readSource_ok read).1
    rw [compareReg, read, Res.bind_ok, only]
    simp
  exact ⟨exec_eq_framed rfl (compare .a), exec_eq_framed rfl (compare .x), exec_eq_framed rfl (compare .y)⟩

/-- A read-modify-write whose address resolves and whose accesses complete (R91). -/
theorem modifyMem_of_access {dst : Address} {value : Byte → Byte} {flags : Byte → Byte → Byte}
    (address : effectiveAddress dst s = .ok ea s1) (read : busRead ea s1 = .ok m s2)
    (write : busWrite ea (value m) s2 = .ok () s3) : modifyMem dst value flags s = .ok () (s3.setP (flags m s3.p)) := by
  rw [modifyMem, address, Res.bind_ok, modifyAt, read, Res.bind_ok, write, Res.bind_ok]

/-- Settles O22: the memory forms are read-modify-writes, the others write their register. -/
theorem incrementsAndDecrementsStepByOne : Obligations.IncrementsAndDecrementsStepByOne := by
  refine ⟨fun v w => ⟨rfl, rfl⟩, rfl, rfl, rfl, rfl, fun s => ⟨rfl, ?inc, rfl, ?dec, rfl, rfl, ?dex, ?dey⟩⟩
  case inc => exact fun dst ea s1 m s2 s3 address read write => exec_eq_framed rfl (modifyMem_of_access address read write)
  case dec => exact fun dst ea s1 m s2 s3 address read write => exec_eq_framed rfl (modifyMem_of_access address read write)
  case dex => rw [sub_eq_add_neg]; rfl
  case dey => rw [sub_eq_add_neg]; rfl

/-- The adder's own overflow is written in binary mode, and in decimal mode under `DEC_V = rule` (R124, R125). -/
theorem writeAlu_of_rule (r : AluResult) (rule : getFlag .decimal s.p = false ∨ s.cfg.decV = .rule) :
    writeAlu r s = .ok () ((s.setReg .a r.value).setP (aluFlags r r.overflow s.p)) := by
  refine if_neg ?_
  rw [Bool.and_eq_true, beq_iff_eq]
  rintro ⟨decimal, draw⟩
  rcases rule with binary | rule
  · exact absurd (binary.symm.trans decimal) (by decide)
  · exact absurd (rule.symm.trans draw) (by decide)

/-- Under `DEC_V = draw` a decimal operation draws its overflow (R122, R123). -/
theorem writeAlu_of_draw (r : AluResult) (decimal : getFlag .decimal s.p = true) (draw : s.cfg.decV = .draw) :
    writeAlu r s = .ok () ((s.drawn.setReg .a r.value).setP (aluFlags r (Config.freeBool s.drawCount) s.p)) :=
  if_pos (by rw [Bool.and_eq_true, beq_iff_eq]; exact ⟨decimal, draw⟩)

/-- The two ways an addition or a subtraction with the result `r` may end, after its operand is read into `t` (R124, R125). -/
def WritesAdderResult (i : Instr) (n : Nat) (r : AluResult) (s t : State) : Prop :=
  (getFlag .decimal s.p = false ∨ s.cfg.decV = .rule →
    exec i s = .next (State.framed n
      { t with a := r.value, p := setNZ r.value (putFlag .overflow r.overflow (putFlag .carry r.carry t.p)) })) ∧
  (getFlag .decimal s.p = true → s.cfg.decV = .draw →
    ∃ v, exec i s = .next (State.framed n
      { t with a := r.value, p := setNZ r.value (putFlag .overflow v (putFlag .carry r.carry t.p)), drawCount := t.drawCount + 1 }))

/-- An arm that adds: the adder sees the registers and the flags that the read of the operand leaves. -/
theorem writesAdderResult_of_addSource {result : Byte → State → AluResult}
    (arm : exec i s = (addSource result src s).outcome (State.retire n))
    (read : readSource src s = .ok m s1) (blind : result m (s.withBus s1) = result m s) :
    WritesAdderResult i n (result m s) s s1 := by
  have only : s1 = s.withBus s1 := (readSource_ok read).1
  have p : s1.p = s.p := (congrArg State.p only :)
  have cfg : s1.cfg = s.cfg := (congrArg State.cfg only :)
  have add : addSource result src s = writeAlu (result m s) s1 := by rw [addSource, read, Res.bind_ok, ← blind, ← only]
  refine ⟨fun rule => ?_, fun decimal draw => ⟨Config.freeBool s1.drawCount, ?_⟩⟩
  · rw [← p, ← cfg] at rule
    exact exec_eq_framed arm (add.trans (writeAlu_of_rule _ rule))
  · rw [← p] at decimal
    rw [← cfg] at draw
    exact exec_eq_framed arm (add.trans (writeAlu_of_draw _ decimal draw))

/-- Settles O19: ADC and SBC are one operation over two adders, each blind to what the read of the operand changes. -/
theorem adcAndSbcWriteTheAdderResult : Obligations.AdcAndSbcWriteTheAdderResult := by
  refine ⟨fun v w => ⟨rfl, rfl⟩, fun src s s1 m r read => ⟨?adc, ?sbc⟩⟩
  case adc => rintro rfl; exact writesAdderResult_of_addSource (result := adcResult) rfl read rfl
  case sbc => rintro rfl; exact writesAdderResult_of_addSource (result := sbcResult) rfl read rfl

end Sys2Proof.Machine
end

section
/-! PROOF. Logic, bit tests, bit set/reset and shifts (spec 43_logic_shift.md R140-R151): the next state of an instruction whose
accesses complete. -/

namespace Sys2Proof.Machine

variable {s s1 : State} {m : Byte} {src : Source}

/-- AND, ORA or EOR of an operand byte that can be read (R140-R142). -/
theorem logic_of_readSource (op : Byte → Byte → Byte) (read : readSource src s = .ok m s1) :
    logic op src s = .ok () (s1.setRegNZ .a (op s.a m)) := by
  have a : s1.a = s.a := (congrArg State.a (readSource_ok read).1 :)
  rw [logic, read, Res.bind_ok, a]

/-- Settles O23: each arm is its operation on the A that the read of the operand leaves. -/
theorem logicOperationsCombineWithA : Obligations.LogicOperationsCombineWithA := by
  refine ⟨fun v w => ⟨rfl, rfl, rfl⟩, fun src s s1 m read => ⟨?and, ?ora, ?eor⟩⟩
  case and => exact exec_eq_framed rfl (logic_of_readSource (· &&& ·) read)
  case ora => exact exec_eq_framed rfl (logic_of_readSource (· ||| ·) read)
  case eor => exact exec_eq_framed rfl (logic_of_readSource (· ^^^ ·) read)

/-- A bit test of an operand byte that can be read (R143). -/
theorem exec_bit_of_readSource (read : readSource src s = .ok m s1) :
    exec (.bit src) s = .next
      ((s1.setP (bitFlags (bitCopiesNV s.cfg.bitImmFlags src) s.a m s.p)).framed (1 + src.bytes)) := by
  refine exec_eq_framed rfl ?_
  have only := (readSource_ok read).1
  have a : s1.a = s.a := (congrArg State.a only :)
  have p : s1.p = s.p := (congrArg State.p only :)
  have cfg : s1.cfg = s.cfg := (congrArg State.cfg only :)
  rw [bitTest, read, Res.bind_ok, a, p, cfg]

theorem bitCopiesNV_uniform (src : Source) : bitCopiesNV .uniform src = true := by cases src <;> rfl

/-- Settles O24: whether N and V are copied depends on the form and, for the immediate form, on the setting. -/
theorem bitTestsWithoutChangingA : Obligations.BitTestsWithoutChangingA := by
  refine ⟨fun v w => rfl, fun src s s1 m read => ⟨?zeroOnly, ?copies⟩⟩
  case zeroOnly =>
    rintro ⟨v, rfl⟩ wdc
    rw [exec_bit_of_readSource read, wdc]
    rfl
  case copies =>
    intro form
    have copied : bitCopiesNV s.cfg.bitImmFlags src = true := by
      obtain ⟨d, rfl⟩ | uniform := form
      · rfl
      · rw [uniform, bitCopiesNV_uniform]
    rw [exec_bit_of_readSource read, copied]
    rfl

/-- Settles O25: both arms are read-modify-writes with the A from before the access. -/
theorem trbAndTsbTestThenChangeMemory : Obligations.TrbAndTsbTestThenChangeMemory := by
  refine ⟨fun v w => ⟨rfl, rfl⟩, fun dst s s1 s2 s3 ea m address read => ⟨?trb, ?tsb⟩⟩
  case trb => exact fun write => exec_eq_framed rfl (modifyMem_of_access address read write)
  case tsb => exact fun write => exec_eq_framed rfl (modifyMem_of_access address read write)

theorem exec_rmbInstr (n : Fin 8) (z : Byte) (s : State) :
    exec (rmbInstr n z) s = (resetBit n z s).outcome (State.retire 2) := by
  fin_cases n <;> rfl

theorem exec_smbInstr (n : Fin 8) (z : Byte) (s : State) :
    exec (smbInstr n z) s = (setBit n z s).outcome (State.retire 2) := by
  fin_cases n <;> rfl

/-- Settles O26: the opcodes are those that decode to the instructions, and every arm is one read-modify-write. -/
theorem rmbAndSmbWriteOneBit : Obligations.RmbAndSmbWriteOneBit := by
  intro n z
  obtain ⟨rmb, smb, -⟩ := (unnamedOpcodesFollowTheirParameter z 0).1 n
  refine ⟨?rmbOpcode, ?smbOpcode, fun b => ?fallback, fun s s1 s2 m read => ⟨fun write => ?rmb, fun write => ?smb⟩⟩
  case rmbOpcode => rw [← rmb, decodeBytes_opcode]
  case smbOpcode => rw [← smb, decodeBytes_opcode]
  case fallback =>
    obtain ⟨-, -, fallback⟩ := (unnamedOpcodesFollowTheirParameter z b).1 n
    exact fallback
  case rmb => exact exec_eq_framed (exec_rmbInstr n z s) (modifyMem_of_access rfl read write)
  case smb => exact exec_eq_framed (exec_smbInstr n z s) (modifyMem_of_access rfl read write)

/-- Settles O27: the accumulator forms write A, and the memory forms are read-modify-writes with the Carry from before the access. -/
theorem shiftsMoveOneBitThroughCarry : Obligations.ShiftsMoveOneBitThroughCarry := by
  refine ⟨fun v w => ⟨rfl, rfl, rfl, rfl⟩, fun s => ⟨rfl, ?asl, rfl, ?lsr, rfl, ?rol, rfl, ?ror⟩⟩
  case asl | lsr | rol | ror =>
    intro dst ea s1 m s2 s3 address read write
    exact exec_eq_framed rfl (modifyMem_of_access address read write)

end Sys2Proof.Machine
end

section
/-! PROOF. Control transfer (spec 44_control.md R160-R176): the PC an instruction that writes it leaves, where its accesses complete,
and BRK followed by RTI on plain addresses. -/

namespace Sys2Proof.Machine

variable {i : Instr} {s s1 s2 s3 t : State} {a w ret : Addr} {m p lo hi r z : Byte}

/-- An arm that writes PC: where its operation completes, only the cycles are charged (R90 step 6). -/
theorem exec_eq_jumped {op : Res Unit} (arm : exec i s = op.outcome State.charge) (completes : op = .ok () (t.setPc a)) :
    exec i s = .next (t.jumped a) := by
  rw [arm, completes]
  rfl

@[simp] theorem State.jumped_cfg (s : State) (a : Addr) : (s.jumped a).cfg = s.cfg := rfl
@[simp] theorem State.jumped_sp (s : State) (a : Addr) : (s.jumped a).sp = s.sp := rfl
@[simp] theorem State.jumped_p (s : State) (a : Addr) : (s.jumped a).p = s.p := rfl
@[simp] theorem State.jumped_pc (s : State) (a : Addr) : (s.jumped a).pc = a := rfl

theorem State.byteAt_jumped (s : State) (v a : Addr) : (s.jumped v).byteAt a = s.byteAt a := rfl

/-! ## Branches (R105, R160-R171) -/

/-- The offset is signed and the target wraps at 16 bits (R105, R160). -/
theorem add_sext16_eq_ofInt (pc : Addr) (len : Nat) (r : Byte) :
    pc + BitVec.ofNat 16 len + sext16 r = BitVec.ofInt 16 (pc.toNat + len + r.toInt) := by
  rw [BitVec.ofInt_add, BitVec.ofInt_add, BitVec.ofInt_natCast, BitVec.ofInt_natCast, BitVec.ofNat_toNat, BitVec.setWidth_eq]
  rfl

/-- The PC after a branch, by a condition in the form a statement gives it. -/
theorem branchTarget_eq_ite {taken : Bool} {cond : Prop} [Decidable cond] (decides : taken = true ↔ cond) (len : Nat) (r : Byte)
    (pc : Addr) :
    branchTarget taken len r pc =
      if cond then BitVec.ofInt 16 (pc.toNat + len + r.toInt) else pc + BitVec.ofNat 16 len := by
  rw [branchTarget, add_sext16_eq_ofInt]
  exact if_congr decides rfl rfl

/-- An arm that branches on `taken` (R160). -/
theorem exec_eq_branch {taken : Bool} {cond : Prop} [Decidable cond] (arm : exec i s = (branch taken r s).outcome State.charge)
    (decides : taken = true ↔ cond) :
    exec i s = .next (s.jumped (if cond then BitVec.ofInt 16 (s.pc.toNat + 2 + r.toInt) else s.pc + 2)) :=
  exec_eq_jumped arm (by rw [branch, branchTarget_eq_ite decides]; rfl)

/-- Settles O28: every arm is the one branch operation; it is taken where a flag is set, or where its complement is. -/
theorem branchesAddTheSignedOffset : Obligations.BranchesAddTheSignedOffset := by
  refine ⟨fun r => ⟨rfl, rfl, rfl, rfl, rfl, rfl, rfl, rfl, rfl⟩, ?_⟩
  rintro s r _ _ rfl rfl
  have ifSet {i : Instr} (f : Flag) (arm : exec i s = (branch (s.flag f) r s).outcome State.charge) := exec_eq_branch arm Iff.rfl
  have ifClear {i : Instr} (f : Flag) (arm : exec i s = (branch (!s.flag f) r s).outcome State.charge) :=
    exec_eq_branch arm (Bool.not_eq_true' _).to_iff
  exact ⟨ifClear .carry rfl, ifSet .carry rfl, ifSet .zero rfl, ifClear .zero rfl, ifSet .negative rfl, ifClear .negative rfl,
    ifClear .overflow rfl, ifSet .overflow rfl, exec_eq_branch (taken := true) (cond := true = true) rfl Iff.rfl⟩

/-- A bit-branch whose zero-page byte can be read (R170, R171). -/
theorem branchBit_of_busRead {want : Bool} {n : Nat} (read : busRead (zext16 z) s = .ok m s1) :
    branchBit want n z r s = .ok () (s1.setPc
      (if m.getLsbD n = want then BitVec.ofInt 16 (s.pc.toNat + 3 + r.toInt) else s.pc + 3)) := by
  rw [branchBit, read, Res.bind_ok, branchTarget_eq_ite beq_iff_eq, busRead_pc read]
  rfl

theorem exec_bbrInstr (n : Fin 8) (z r : Byte) (s : State) :
    exec (bbrInstr n z r) s = (branchBit false n z r s).outcome State.charge := by
  fin_cases n <;> rfl

theorem exec_bbsInstr (n : Fin 8) (z r : Byte) (s : State) :
    exec (bbsInstr n z r) s = (branchBit true n z r s).outcome State.charge := by
  fin_cases n <;> rfl

theorem bbrInstr_encoding (n : Fin 8) (z r : Byte) :
    (bbrInstr n z r).opcode = some (BitVec.ofNat 8 (0x0F + 16 * n.val)) ∧ (bbrInstr n z r).length = 3 := by
  fin_cases n <;> exact ⟨rfl, rfl⟩

theorem bbsInstr_encoding (n : Fin 8) (z r : Byte) :
    (bbsInstr n z r).opcode = some (BitVec.ofNat 8 (0x8F + 16 * n.val)) ∧ (bbsInstr n z r).length = 3 := by
  fin_cases n <;> exact ⟨rfl, rfl⟩

/-- Settles O29: every arm is the one bit-branch operation, which reads a single byte and leaves PC to be computed from the old one. -/
theorem bitBranchesTestOneBit : Obligations.BitBranchesTestOneBit := by
  intro n z r
  obtain ⟨bbrOpcode, bbrLength⟩ := bbrInstr_encoding n z r
  obtain ⟨bbsOpcode, bbsLength⟩ := bbsInstr_encoding n z r
  refine ⟨bbrOpcode, bbsOpcode, bbrLength, bbsLength, ?_⟩
  rintro s s1 m _ _ read rfl rfl
  exact ⟨exec_eq_jumped (exec_bbrInstr n z r s) (branchBit_of_busRead read),
    exec_eq_jumped (exec_bbsInstr n z r s) (branchBit_of_busRead read)⟩

/-! ## Calls and returns (R173, R174) -/

/-- A word push whose two pushes complete (R54). -/
theorem pushWord_of_pushes (high : push (hiByte w) s = .ok () s1) (low : push (loByte w) s1 = .ok () s2) :
    pushWord w s = .ok () s2 := by
  rw [pushWord, high, Res.bind_ok, low]

/-- A word pull whose two pulls complete (R54). -/
theorem pullWord_of_pulls (low : pull s = .ok lo s1) (high : pull s1 = .ok hi s2) : pullWord s = .ok (word hi lo) s2 := by
  rw [pullWord, low, Res.bind_ok, high, Res.bind_ok]

theorem call_of_pushWord (pushed : pushWord (s.pc + 2) s = .ok () s1) : call w s = .ok () (s1.setPc w) := by
  rw [call, pushed, Res.bind_ok]

theorem returnSub_of_pullWord (pulled : pullWord s = .ok w s1) : returnSub s = .ok () (s1.setPc (w + 1)) := by
  rw [returnSub, pulled, Res.bind_ok]

/-- Settles O31: a word is its high byte above its low byte, on the way to the stack and back. -/
theorem jsrAndRtsUseThePushedReturnAddress : Obligations.JsrAndRtsUseThePushedReturnAddress := by
  refine ⟨fun w => rfl, rfl, ?jsr, ?rts⟩
  case jsr =>
    rintro s s1 s2 w _ rfl high low
    exact exec_eq_jumped rfl (call_of_pushWord (pushWord_of_pushes high low))
  case rts =>
    intro s s1 s2 lo hi low high
    exact exec_eq_jumped rfl (returnSub_of_pullWord (pullWord_of_pulls low high))

/-! ## Exceptions (R175, R176) -/

/-- Taking an exception whose pushes and vector read complete (R175). -/
theorem enterException_of_accesses (pushed : pushWord ret s = .ok () s1) (status : push p s1 = .ok () s2)
    (vector : busRead16 breakVector (s2.setFlag .interrupt true) = .ok w s3) :
    enterException ret p s = .ok () (s3.setPc w) := by
  rw [enterException, pushed, Res.bind_ok, status, Res.bind_ok, vector, Res.bind_ok]

/-- Returning from an exception whose pulls complete (R176). -/
theorem returnFromException_of_pulls (status : pull s = .ok p s1) (pulled : pullWord (s1.setP p) = .ok w s2) :
    returnFromException s = .ok () (s2.setPc w) := by
  rw [returnFromException, status, Res.bind_ok, pulled, Res.bind_ok]

theorem push_p (h : push m s = .ok () t) : t.p = s.p := by
  obtain ⟨-, only, -⟩ := push_ok h
  exact (congrArg State.p only :)

/-- Settles O32: no push of BRK writes P, so I is set in the P that it found. -/
theorem brkAndRtiEnterAndLeaveTheHandler : Obligations.BrkAndRtiEnterAndLeaveTheHandler := by
  refine ⟨rfl, rfl, rfl, ?brk, ?rti⟩
  case brk =>
    rintro s s1 s2 s3 s4 s5 _ lo hi rfl high low status vectorLow vectorHigh
    have kept : s3.p = s.p := (push_p status).trans ((push_p low).trans (push_p high))
    rw [← kept] at vectorLow
    exact exec_eq_jumped rfl
      (enterException_of_accesses (pushWord_of_pushes high low) status (busRead16_of_reads vectorLow vectorHigh))
  case rti =>
    intro s s1 s2 s3 p lo hi status low high
    exact exec_eq_jumped rfl (returnFromException_of_pulls status (pullWord_of_pulls low high))

/-! ## Exceptions on plain addresses -/

/-- The state with `ret` and then `p` stored in the three slots from SP down (R175). -/
def State.stackFrame (s : State) (ret : Addr) (p : Byte) : State := (s.stackWord ret).storeByte (stackAddr (s.sp - 2)) p

theorem State.stackFrame_status (s : State) (ret : Addr) (p : Byte) : (s.stackFrame ret p).byteAt (stackAddr (s.sp - 2)) = p := by
  rw [State.stackFrame, State.byteAt_storeByte, if_pos rfl]

theorem State.stackFrame_of_ne (s : State) (ret : Addr) (p : Byte) (h : a ≠ stackAddr (s.sp - 2)) :
    (s.stackFrame ret p).byteAt a = (s.stackWord ret).byteAt a := by
  rw [State.stackFrame, State.byteAt_storeByte, if_neg h]

theorem State.stackFrame_high (s : State) (ret : Addr) (p : Byte) :
    (s.stackFrame ret p).byteAt (stackAddr s.sp) = hiByte ret := by
  have apart : s.sp ≠ s.sp - 2 := by bv_omega
  rw [s.stackFrame_of_ne ret p (mt stackAddr_inj.1 apart), s.stackWord_high]

theorem State.stackFrame_low (s : State) (ret : Addr) (p : Byte) :
    (s.stackFrame ret p).byteAt (stackAddr (s.sp - 1)) = loByte ret := by
  have apart : s.sp - 1 ≠ s.sp - 2 := by bv_omega
  rw [s.stackFrame_of_ne ret p (mt stackAddr_inj.1 apart), s.stackWord_low]

/-- The vectors lie above the stack page. -/
theorem ne_stackAddr_of_le (above : 0x0200 ≤ a.toNat) (sp : Byte) : a ≠ stackAddr sp := by
  rintro rfl
  rw [stackAddr_toNat] at above
  omega

theorem State.stackFrame_above (s : State) (ret : Addr) (p : Byte) (above : 0x0200 ≤ a.toNat) :
    (s.stackFrame ret p).byteAt a = s.byteAt a := by
  rw [s.stackFrame_of_ne ret p (ne_stackAddr_of_le above _), State.stackWord, State.byteAt_storeByte,
    if_neg (ne_stackAddr_of_le above _), State.byteAt_storeByte, if_neg (ne_stackAddr_of_le above _)]

@[simp] theorem State.stackWord_cfg (s : State) (w : Addr) : (s.stackWord w).cfg = s.cfg := by simp [State.stackWord]

@[simp] theorem State.stackFrame_cfg (s : State) (ret : Addr) (p : Byte) : (s.stackFrame ret p).cfg = s.cfg := by
  simp [State.stackFrame]

@[simp] theorem State.stackFrame_p (s : State) (ret : Addr) (p : Byte) : (s.stackFrame ret p).p = s.p := by
  simp [State.stackFrame, State.stackWord]

/-- The state at the vector read of an exception whose slots are plain (R175). -/
def State.entered (s : State) (ret : Addr) (p : Byte) : State :=
  ((s.stackFrame ret p).setSp (s.sp - 3)).setFlag .interrupt true

@[simp] theorem State.entered_cfg (s : State) (ret : Addr) (p : Byte) : (s.entered ret p).cfg = s.cfg := by simp [State.entered]

@[simp] theorem State.entered_sp (s : State) (ret : Addr) (p : Byte) : (s.entered ret p).sp = s.sp - 3 := rfl

theorem State.entered_p (s : State) (ret : Addr) (p : Byte) : (s.entered ret p).p = s.p ||| 0x04 := by
  rw [State.entered, State.setFlag_p, State.setSp_p, State.stackFrame_p]
  rfl

theorem State.byteAt_entered (s : State) (ret : Addr) (p : Byte) (a : Addr) :
    (s.entered ret p).byteAt a = (s.stackFrame ret p).byteAt a := by
  rw [State.byteAt, State.entered, State.setFlag_mem, State.setSp_mem, State.byteAt]

/-- Pushing the frame of an exception on plain slots (R175). -/
theorem push_stackFrame (status : isPlain s.cfg (stackAddr (s.sp - 2)) = true) :
    push p ((s.stackWord ret).setSp (s.sp - 2)) = .ok () ((s.stackFrame ret p).setSp (s.sp - 3)) := by
  have three : s.sp - 2 - 1 = s.sp - 3 := by bv_omega
  have slot : isPlain ((s.stackWord ret).setSp (s.sp - 2)).cfg (stackAddr (s.sp - 2)) = true := by simpa using status
  rw [push_plain rfl slot, State.setSp_sp, three]
  rfl

/-- The frame leaves the addresses above the stack page, so the vector reads as it did before (R175). -/
theorem busRead_entered (above : 0x0200 ≤ a.toNat) (plain : isPlain s.cfg a = true) :
    busRead a (s.entered ret p) = .ok (s.byteAt a) (s.entered ret p) := by
  rw [busRead_plain (by simpa using plain), State.byteAt_entered, s.stackFrame_above ret p above]

/-- Taking an exception on plain slots and a plain vector (R175). -/
theorem enterException_plain (held : s.spHeld = true) (high : isPlain s.cfg (stackAddr s.sp) = true)
    (low : isPlain s.cfg (stackAddr (s.sp - 1)) = true) (status : isPlain s.cfg (stackAddr (s.sp - 2)) = true)
    (vectorLow : isPlain s.cfg 0xFFFE = true) (vectorHigh : isPlain s.cfg 0xFFFF = true) :
    enterException ret p s = .ok () ((s.entered ret p).setPc (word (s.byteAt 0xFFFF) (s.byteAt 0xFFFE))) :=
  enterException_of_accesses (pushWord_plain held high low) (push_stackFrame status)
    (busRead16_of_reads (busRead_entered (by decide) vectorLow) (busRead_entered (a := 0xFFFF) (by decide) vectorHigh))

/-- Returning from an exception on plain slots (R176). -/
theorem returnFromException_plain (held : s.spHeld = true) (status : isPlain s.cfg (stackAddr (s.sp + 1)) = true)
    (low : isPlain s.cfg (stackAddr (s.sp + 2)) = true) (high : isPlain s.cfg (stackAddr (s.sp + 3)) = true) :
    returnFromException s = .ok () (((s.setSp (s.sp + 3)).setP (s.byteAt (stackAddr (s.sp + 1)))).setPc
      (word (s.byteAt (stackAddr (s.sp + 3))) (s.byteAt (stackAddr (s.sp + 2))))) := by
  have two : s.sp + 1 + 1 = s.sp + 2 := by bv_omega
  have three : s.sp + 1 + 2 = s.sp + 3 := by bv_omega
  rw [← two] at low ⊢
  rw [← three] at high ⊢
  exact returnFromException_of_pulls (pull_plain held status) (pullWord_plain (s := (s.setSp (s.sp + 1)).setP _) rfl low high)

/-- Returning to the state that an exception was taken in (R176): whatever the handler's address is, the frame is pulled as it was
pushed. -/
theorem returnFromException_entered (handler : Addr) (high : isPlain s.cfg (stackAddr s.sp) = true)
    (low : isPlain s.cfg (stackAddr (s.sp - 1)) = true) (status : isPlain s.cfg (stackAddr (s.sp - 2)) = true) :
    returnFromException ((s.entered ret p).jumped handler) =
      .ok () (((((s.entered ret p).jumped handler).setSp s.sp).setP p).setPc ret) := by
  have first : s.sp - 3 + 1 = s.sp - 2 := by bv_omega
  have second : s.sp - 3 + 2 = s.sp - 1 := by bv_omega
  have third : s.sp - 3 + 3 = s.sp := by bv_omega
  have byteAt (a : Addr) : ((s.entered ret p).jumped handler).byteAt a = (s.stackFrame ret p).byteAt a := by
    rw [State.byteAt_jumped, State.byteAt_entered]
  have slots (n : Byte) : isPlain ((s.entered ret p).jumped handler).cfg (stackAddr (((s.entered ret p).jumped handler).sp + n)) =
      isPlain s.cfg (stackAddr (s.sp - 3 + n)) := by
    rw [State.jumped_cfg, State.entered_cfg, State.jumped_sp, State.entered_sp]
  rw [returnFromException_plain rfl (by rwa [slots, first]) (by rwa [slots, second]) (by rwa [slots, third]),
    State.jumped_sp, State.entered_sp, first, second, third, byteAt, byteAt, byteAt, s.stackFrame_status, s.stackFrame_low,
    s.stackFrame_high, word_hiByte_loByte]

/-- Settles O55: BRK leaves its frame in three different slots below the vector, and RTI pulls it. -/
theorem rtiAfterBrkRestoresFlagsAndResumes : Obligations.RtiAfterBrkRestoresFlagsAndResumes := by
  intro s held high low status vectorLow vectorHigh
  have brk := exec_eq_jumped (i := .brk) rfl
    (enterException_plain (ret := s.pc + 2) (p := s.p ||| 0x30) held high low status vectorLow vectorHigh)
  have rti := exec_eq_jumped (i := .rti) rfl
    (returnFromException_entered (ret := s.pc + 2) (p := s.p ||| 0x30) (word (s.byteAt 0xFFFF) (s.byteAt 0xFFFE)) high low status)
  exact ⟨_, _, brk, State.jumped_pc _ _, by rw [State.jumped_p, State.entered_p], rti, by simp⟩

end Sys2Proof.Machine
end

section
/-! PROOF. Stack, transfer, flag, no-operation and wait instructions (spec 45_stack_transfer_misc.md R180-R206, 95_test_vectors.md E5,
E6): the next state of an instruction whose accesses complete, and the round trips through plain stack slots. -/

namespace Sys2Proof

variable {ext : Bool} {op : Byte}

/-! ## The opcodes of the no-operations (R76, R77) -/

/-- An undefined opcode, or an unnamed one where the extensions are off, decodes to the no-operation that carries it, whatever bytes
follow. -/
theorem decodeBytes_eq_nop1 (h : op ∈ nop1Opcodes ∨ ext = false ∧ op ∈ unnamed1Opcodes) (b1 b2 : Byte) :
    decodeBytes ext op b1 b2 = .nop1 op :=
  decodeBytes_of_opcode (i := .nop1 op) (by simpa [Instr.wellFormed] using h) rfl b1 b2

theorem decodeBytes_eq_nop2 (h : op ∈ nop2Opcodes ∨ ext = false ∧ op ∈ unnamed2Opcodes) (b1 b2 : Byte) :
    decodeBytes ext op b1 b2 = .nop2 op :=
  decodeBytes_of_opcode (i := .nop2 op) (by simpa [Instr.wellFormed] using h) rfl b1 b2

theorem decodeBytes_eq_nop3 (h : op ∈ nop3Opcodes ∨ ext = false ∧ op ∈ unnamed3Opcodes) (b1 b2 : Byte) :
    decodeBytes ext op b1 b2 = .nop3 op :=
  decodeBytes_of_opcode (i := .nop3 op) (by simpa [Instr.wellFormed] using h) rfl b1 b2

end Sys2Proof

namespace Sys2Proof.Machine

variable {i : Instr} {s s1 u : State} {w : Addr} {v sp : Byte}

/-! ## Pushes and pulls (R180-R187) -/

theorem pullReg_of_pull (r : Reg) (pulled : pull s = .ok v s1) : pullReg r s = .ok () (s1.setRegNZ r v) := by
  rw [pullReg, pulled, Res.bind_ok]

/-- PLP loads the byte pulled verbatim (R185). -/
theorem exec_plp_of_pull (pulled : pull s = .ok v s1) : exec .plp s = .next ((s1.setP v).framed 1) :=
  exec_eq_framed rfl (by rw [pulled, Res.bind_ok])

/-- Settles O33: each push arm is one push, each pull arm one pull followed by the register's write. -/
theorem pushesAndPullsMoveOneByte : Obligations.PushesAndPullsMoveOneByte := by
  refine ⟨rfl, rfl, rfl, rfl, rfl, rfl, rfl, rfl, fun s s1 => ?pushes, fun s s1 v pulled => ⟨?pla, ?plp, ?plx, ?ply⟩⟩
  case pushes => exact ⟨exec_eq_framed rfl, exec_eq_framed rfl, exec_eq_framed rfl, exec_eq_framed rfl⟩
  case pla => exact exec_eq_framed rfl (pullReg_of_pull .a pulled)
  case plp => exact exec_plp_of_pull pulled
  case plx => exact exec_eq_framed rfl (pullReg_of_pull .x pulled)
  case ply => exact exec_eq_framed rfl (pullReg_of_pull .y pulled)

/-! ## Transfers (R188-R193) -/

theorem exec_eq_transfer (src dst : Reg) (arm : exec i s = (transfer src dst s).outcome (State.retire 1)) :
    exec i s = .next ((s.setRegNZ dst (s.reg src)).framed 1) :=
  exec_eq_framed arm rfl

/-- TSX reads SP, so it completes where SP holds a value (R192, R219). -/
theorem exec_tsx_of_held (held : s.spHeld = true) : exec .tsx s = .next ((s.setRegNZ .x s.sp).framed 1) :=
  exec_eq_framed rfl (by rw [readSp_held held, Res.bind_ok])

/-- Settles O34: four arms are the one transfer operation; TSX and TXS read and write SP. -/
theorem transfersCopyOneRegister : Obligations.TransfersCopyOneRegister := by
  refine ⟨rfl, rfl, rfl, rfl, rfl, rfl, fun s => ⟨?tax, ?tay, ?txa, ?tya, ?tsx, ?txs⟩⟩
  case tax => exact exec_eq_transfer .a .x rfl
  case tay => exact exec_eq_transfer .a .y rfl
  case txa => exact exec_eq_transfer .x .a rfl
  case tya => exact exec_eq_transfer .y .a rfl
  case tsx => exact exec_tsx_of_held
  case txs => exact exec_eq_framed (t := s.setSp s.x) rfl rfl

/-! ## Flags and modes (R194-R200, R205, R206) -/

theorem exec_eq_writeFlag (f : Flag) (b : Bool) (arm : exec i s = (writeFlag f b s).outcome (State.retire 1)) :
    exec i s = .next ((s.setFlag f b).framed 1) :=
  exec_eq_framed arm rfl

/-- Settles O35: every arm writes one flag, whose mask the statement writes out. -/
theorem flagInstructionsWriteOneBit : Obligations.FlagInstructionsWriteOneBit := by
  refine ⟨rfl, rfl, rfl, rfl, rfl, rfl, rfl, fun s => ⟨?clc, ?sec, ?cli, ?sei, ?cld, ?sed, ?clv⟩⟩
  case clc => exact exec_eq_writeFlag .carry false rfl
  case sec => exact exec_eq_writeFlag .carry true rfl
  case cli => exact exec_eq_writeFlag .interrupt false rfl
  case sei => exact exec_eq_writeFlag .interrupt true rfl
  case cld => exact exec_eq_writeFlag .decimal false rfl
  case sed => exact exec_eq_writeFlag .decimal true rfl
  case clv => exact exec_eq_writeFlag .overflow false rfl

theorem exec_eq_enterMode (m : CpuMode) (arm : exec i s = (enterMode m s).outcome (State.retire 1)) :
    exec i s = .next ((s.setMode m).framed 1) :=
  exec_eq_framed arm rfl

/-- Settles O37: both arms write the mode. -/
theorem waiAndStpEnterTheirMode : Obligations.WaiAndStpEnterTheirMode :=
  ⟨rfl, rfl, fun _ => ⟨exec_eq_enterMode .waiting rfl, exec_eq_enterMode .stopped rfl⟩⟩

/-! ## No-operations (R201-R204) -/

theorem exec_eq_nop {n : Nat} (arm : exec i s = (Res.ok () s).outcome (State.retire n)) : exec i s = .next (s.framed n) :=
  exec_eq_framed arm rfl

/-- Settles O36: every arm leaves the state to its frame, and the listed opcodes are the undefined and the unnamed ones. -/
theorem noOperationsOnlyAdvance : Obligations.NoOperationsOnlyAdvance := by
  refine ⟨rfl, fun s op => ⟨exec_eq_nop rfl, exec_eq_nop rfl, exec_eq_nop rfl, exec_eq_nop rfl⟩, fun b1 b2 => ⟨fun ext => ?undefined,
    ?unnamed⟩⟩
  case undefined =>
    have column3 : ∀ n ∈ List.range 16, BitVec.ofNat 8 (0x03 + 16 * n) ∈ nop1Opcodes := by decide
    have columnB : ∀ n ∈ List.range 12, BitVec.ofNat 8 (0x0B + 16 * n) ∈ nop1Opcodes := by decide
    have rest : [0xEB, 0xFB] ⊆ nop1Opcodes := by decide
    exact ⟨fun n hn => decodeBytes_eq_nop1 (.inl (column3 n hn)) b1 b2, fun n hn => decodeBytes_eq_nop1 (.inl (columnB n hn)) b1 b2,
      fun op h => decodeBytes_eq_nop1 (.inl (rest h)) b1 b2, fun op h => decodeBytes_eq_nop2 (.inl h) b1 b2,
      fun op h => decodeBytes_eq_nop3 (.inl h) b1 b2⟩
  case unnamed =>
    have column7 : ∀ n ∈ List.range 16, BitVec.ofNat 8 (0x07 + 16 * n) ∈ unnamed2Opcodes := by decide
    exact ⟨fun op h => decodeBytes_eq_nop1 (.inr ⟨rfl, h⟩) b1 b2, fun n hn => decodeBytes_eq_nop2 (.inr ⟨rfl, column7 n hn⟩) b1 b2,
      fun op h => decodeBytes_eq_nop2 (.inr ⟨rfl, List.mem_append_right _ h⟩) b1 b2,
      decodeBytes_eq_nop3 (.inr ⟨rfl, List.mem_singleton_self _⟩) b1 b2⟩

/-! ## Round trips through plain slots (E5, E6) -/

/-- A pull from the plain slot just above SP. -/
theorem pull_plain_above (held : u.spHeld = true) (below : u.sp = sp - 1) (slot : isPlain u.cfg (stackAddr sp) = true) :
    pull u = .ok (u.byteAt (stackAddr sp)) (u.setSp sp) := by
  obtain rfl : sp = u.sp + 1 := by bv_omega
  exact pull_plain held slot

/-- A PLA from the plain slot just above SP. -/
theorem exec_pla_plain_above (held : u.spHeld = true) (below : u.sp = sp - 1) (slot : isPlain u.cfg (stackAddr sp) = true) :
    ∃ t, exec .pla u = .next t ∧ t.a = u.byteAt (stackAddr sp) ∧ t.sp = sp :=
  ⟨_, exec_eq_framed rfl (pullReg_of_pull .a (pull_plain_above held below slot)), rfl, rfl⟩

/-- The state after JSR on plain slots (R173): the address of its last byte is on the stack. -/
def State.called (s : State) (w : Addr) : State := ((s.stackWord (s.pc + 2)).setSp (s.sp - 2)).jumped w

@[simp] theorem State.called_cfg (s : State) (w : Addr) : (s.called w).cfg = s.cfg := by simp [State.called]

@[simp] theorem State.called_sp (s : State) (w : Addr) : (s.called w).sp = s.sp - 2 := by simp [State.called]

@[simp] theorem State.called_pc (s : State) (w : Addr) : (s.called w).pc = w := by simp [State.called]

theorem State.byteAt_called (s : State) (w a : Addr) : (s.called w).byteAt a = (s.stackWord (s.pc + 2)).byteAt a := by
  rw [State.called, State.byteAt_jumped, State.byteAt, State.setSp_mem, State.byteAt]

section
variable (high : isPlain s.cfg (stackAddr s.sp) = true) (low : isPlain s.cfg (stackAddr (s.sp - 1)) = true)
include high low

theorem exec_jsr_plain (held : s.spHeld = true) : exec (.jsr w) s = .next (s.called w) :=
  exec_eq_jumped rfl (call_of_pushWord (pushWord_plain held high low))

/-- The word that JSR pushed is pulled again. -/
theorem pullWord_called : pullWord (s.called w) = .ok (s.pc + 2) ((s.called w).setSp s.sp) := by
  have one : s.sp - 2 + 1 = s.sp - 1 := by bv_omega
  have two : s.sp - 2 + 2 = s.sp := by bv_omega
  rw [pullWord_plain rfl (by rwa [State.called_cfg, State.called_sp, one]) (by rwa [State.called_cfg, State.called_sp, two]),
    State.called_sp, one, two, State.byteAt_called, State.byteAt_called, s.stackWord_high, s.stackWord_low, word_hiByte_loByte]

/-- RTS at the subroutine that JSR entered resumes after the JSR (R174). -/
theorem exec_rts_called : exec .rts (s.called w) = .next (((s.called w).setSp s.sp).jumped (s.pc + 3)) := by
  have next : s.pc + 2 + 1 = s.pc + 3 := by bv_omega
  exact exec_eq_jumped rfl (next ▸ returnSub_of_pullWord (pullWord_called high low))

end

/-- Settles O54: the slots still hold what PHA and JSR stored in them. -/
theorem roundTripsRestoreTheRegisters : Obligations.RoundTripsRestoreTheRegisters := by
  intro s held high low
  refine ⟨⟨_, exec_eq_framed (i := .pha) rfl (push_plain held high), fun a p => ?pla⟩, fun w => ?jsr⟩
  case pla =>
    have stored : (s.storeByte (stackAddr s.sp) s.a).byteAt (stackAddr s.sp) = s.a := by rw [State.byteAt_storeByte, if_pos rfl]
    obtain ⟨u, pla, pulled, sp⟩ := exec_pla_plain_above
      (u := { ((s.storeByte (stackAddr s.sp) s.a).setSp (s.sp - 1)).framed 1 with a := a, p := p }) (sp := s.sp) rfl rfl high
    exact ⟨u, pla, pulled.trans stored, sp⟩
  case jsr => exact ⟨_, _, exec_jsr_plain high low held, s.called_pc w, exec_rts_called high low, by simp⟩

end Sys2Proof.Machine
end

section
/-! PROOF. The stopped machine and the end of a run (spec 45_stack_transfer_misc.md R206, 60_exceptions.md R257, R258, R264): what a
step may change while no processor and no device runs, and at which boundary a run ends. -/

namespace Sys2Proof.Machine

variable {s t u : State} {f : Fault} {endPc : Addr} {j k n : Nat}

/-- The state `s` with everything that the host's commands, Reset apart, and the engine's logging may write taken from `t`. -/
def State.withEngine (s t : State) : State :=
  { s with mem := t.mem, runState := t.runState, stepRequest := t.stepRequest, logLevel := t.logLevel
           events := t.events, delivered := t.delivered, drawCount := t.drawCount }

/-- Neither the processor nor a device has run between `s` and `t`. -/
def Rests (s t : State) : Prop := t = s.withEngine t

theorem Rests.refl : Rests s s := rfl

theorem Rests.trans (h : Rests s t) (k : Rests t u) : Rests s u := Eq.trans k (congrArg (·.withEngine u) h)

theorem State.sendInput_rests (s : State) (c : Char) : Rests s (s.sendInput c) := by
  unfold State.sendInput
  split <;> rfl

theorem applyCommand_rests {c : HostCommand} (h : c ≠ .reset) (s : State) : Completes (applyCommand c s) (Rests s) := by
  cases c with
  | reset => exact absurd rfl h
  | sendInputByte ch => exact .ok () (s.sendInput_rests ch)
  | fetchMemorySnapshot | fetchProcessorSnapshot | setLogLevel | togglePause | step => exact .ok () rfl

theorem applyCommands_rests {cs : List HostCommand} (h : .reset ∉ cs) (s : State) : Completes (applyCommands cs s) (Rests s) := by
  induction cs generalizing s with
  | nil => exact .ok () .refl
  | cons c cs ih =>
    refine (applyCommand_rests (List.ne_of_not_mem_cons h).symm s).bind fun _ t ht => ?_
    obtain ⟨v, u, hu, rests⟩ := ih (List.not_mem_of_not_mem_cons h) t
    exact ⟨v, u, hu, ht.trans rests⟩

theorem State.logAndStall_rests (s : State) : Rests s s.logAndStall := by
  by_cases level : s.logLevel = 0
  · rw [State.logAndStall_silent level]; exact .refl
  · obtain ⟨lines, text, e | e⟩ := State.logAndStall_logging level <;> rw [e] <;> rfl

/-- A stopped engine logs, and consumes a step-request where it looks at one (R206, R210). -/
theorem engineStep_of_stopped (stopped : s.cpuMode = .stopped) : ∃ t, engineStep s = .next t ∧ Rests s t := by
  unfold engineStep
  split
  · exact ⟨_, rfl, s.logAndStall_rests⟩
  · rw [stopped]
    exact ⟨_, rfl, Rests.trans (t := s.clearRequest) rfl (State.logAndStall_rests _)⟩

/-- A step of a stopped machine with no Reset pending (R206, R257): its commands are taken, and all else that it may change is the
engine's. -/
theorem step_of_stopped (stopped : s.cpuMode = .stopped) (h : .reset ∉ s.commands.headD []) :
    ∃ t, step s = .next t ∧ Rests s.takeCommands t := by
  obtain ⟨_, u, commands, applied⟩ := applyCommands_rests h s.takeCommands
  obtain ⟨t, engine, rests⟩ := engineStep_of_stopped (s := u) (by rw [applied]; exact stopped)
  exact ⟨t, by rw [step, harnessStep, State.pending, commands]; exact engine, applied.trans rests⟩

theorem State.endOfRun_iff : s.endOfRun endPc = true ↔ s.cpuMode = .stopped ∨ (s.pc = endPc ∧ s.cpuMode = .executing) := by
  simp [State.endOfRun]

theorem endsAt_zero (h : s.endOfRun endPc = true) : endsAt endPc 0 s := ⟨⟨s, rfl, h⟩, fun k hk => absurd hk k.not_lt_zero⟩

/-- A run ends at its first such boundary, so at none after another end (R264). -/
theorem endsAt_le (hj : endsAt endPc j s) (hk : endsAt endPc k s) : k ≤ j := by
  obtain ⟨⟨t, reached, ended⟩, -⟩ := hj
  by_contra later
  exact Bool.eq_false_iff.1 (hk.2 j (Nat.lt_of_not_le later) t reached) ended

/-- A fault ends the steps (R219). -/
theorem runSteps_fault_of_le (h : runSteps n s = .fault f) (later : n ≤ k) : runSteps k s = .fault f := by
  induction n generalizing s k with
  | zero => cases h
  | succ n ih =>
    obtain ⟨k, rfl⟩ := Nat.exists_eq_add_one_of_ne_zero (Nat.ne_zero_of_lt later)
    cases stepped : step s <;> simp only [runSteps, stepped] at h ⊢
    case next t => exact ih h (Nat.le_of_succ_le_succ later)
    case fault e => exact h
    case refused e => cases h

theorem not_endsAt_of_fault (h : runSteps n s = .fault f) (later : n ≤ k) : ¬endsAt endPc k s := by
  rintro ⟨⟨t, reached, -⟩, -⟩
  cases (runSteps_fault_of_le h later).symm.trans reached

/-- Settles O49: a stopped step changes nothing outside the engine, and an end is the first boundary of its kind that is reached. -/
theorem stoppedMachineStaysStoppedUntilReset : Obligations.StoppedMachineStaysStoppedUntilReset := by
  refine ⟨fun s stopped h => ?rests, fun endPc s => ⟨State.endOfRun_iff, fun stopped => ?first, fun j k hj hk => ?once,
    fun n f h k later => not_endsAt_of_fault h later⟩⟩
  case rests =>
    obtain ⟨t, stepped, rests⟩ := step_of_stopped stopped h
    refine ⟨t, stepped, ?_⟩
    rw [rests]
    exact ⟨stopped, rfl, rfl, rfl, rfl, rfl, rfl, rfl, rfl, rfl, rfl, rfl, rfl, rfl⟩
  case first => exact endsAt_zero (State.endOfRun_iff.2 (.inl stopped))
  case once => exact Nat.le_antisymm (endsAt_le hk hj) (endsAt_le hj hk)

end Sys2Proof.Machine
end

section
/-! PROOF. The disk controller (spec 60_exceptions.md R222-R231, 95_test_vectors.md E8): what each access of the data port and of the
other registers does, and the block that a Read command transfers. -/

namespace Sys2Proof.Machine

variable {s : State} {d : Disk} {n : Nat} {b v : Byte} {f : Fault}

/-- The block number is the LBA fields as digits (R222). -/
theorem Disk.lba_eq (d : Disk) :
    d.lba = ((d.lba3.toNat * 256 + d.lba2.toNat) * 256 + d.lba1.toNat) * 256 + d.lba0.toNat := by
  have digit {w : Nat} (x : BitVec w) (y : Byte) : (x ++ y).toNat = x.toNat * 256 + y.toNat := by
    rw [BitVec.toNat_append, ← Nat.shiftLeft_add_eq_or_of_lt y.isLt, Nat.shiftLeft_eq]
  rw [Disk.lba, digit, digit, digit]

/-! ## The data port (R225, R226) -/

theorem diskReadData_idle (idle : s.disk.command ≠ .read) : diskReadData s = drawByte s := if_pos idle

theorem diskReadData_atEnd (command : s.disk.command = .read) (atEnd : s.disk.offset = 512) :
    diskReadData s = drawByte { s with disk := { s.disk with command := .none } } := by
  rw [diskReadData, if_neg (not_not.2 command), if_pos atEnd]

theorem diskReadData_transfer (command : s.disk.command = .read) (inside : s.disk.offset ≠ 512)
    (stored : s.disk.store[s.disk.byteIndex]? = some b) :
    diskReadData s = .ok b { s with disk := s.disk.advance s.cfg.diskClear } := by
  simp only [diskReadData, command, inside, stored, ne_eq, not_true_eq_false, if_false]

theorem diskReadData_eq_fault :
    diskReadData s = .fault f ↔ f = .diskOutOfRange ∧ s.disk.command = .read ∧ s.disk.offset ≠ 512 ∧
      s.disk.store.length ≤ s.disk.byteIndex := by
  by_cases command : s.disk.command = .read
  · by_cases atEnd : s.disk.offset = 512
    · simp [diskReadData_atEnd command atEnd, atEnd, drawByte]
    · cases stored : s.disk.store[s.disk.byteIndex]? with
      | some b =>
        have inside : ¬s.disk.store.length ≤ s.disk.byteIndex := not_le.2 (List.getElem?_eq_some_iff.1 stored).1
        simp [diskReadData_transfer command atEnd stored, inside]
      | none => simp [diskReadData, command, atEnd, List.getElem?_eq_none_iff.1 stored, eq_comm (a := f)]
  · simp [diskReadData_idle command, command, drawByte]

theorem diskWriteData_idle (v : Byte) (idle : s.disk.command ≠ .write) : diskWriteData v s = .ok () s := if_pos idle

theorem diskWriteData_atEnd (v : Byte) (command : s.disk.command = .write) (atEnd : s.disk.offset = 512) :
    diskWriteData v s = .ok () { s with disk := { s.disk with command := .none } } := by
  rw [diskWriteData, if_neg (not_not.2 command), if_pos atEnd]

theorem diskWriteData_transfer (v : Byte) (command : s.disk.command = .write) (inside : s.disk.offset ≠ 512)
    (stored : s.disk.byteIndex < s.disk.store.length) :
    diskWriteData v s =
      .ok () { s with disk := { s.disk.advance s.cfg.diskClear with store := s.disk.store.set s.disk.byteIndex v } } := by
  rw [diskWriteData, if_neg (not_not.2 command), if_neg inside, if_pos stored]

theorem diskWriteData_eq_fault :
    diskWriteData v s = .fault f ↔ f = .diskOutOfRange ∧ s.disk.command = .write ∧ s.disk.offset ≠ 512 ∧
      s.disk.store.length ≤ s.disk.byteIndex := by
  by_cases command : s.disk.command = .write
  · by_cases atEnd : s.disk.offset = 512
    · simp [diskWriteData_atEnd v command atEnd, atEnd]
    · by_cases stored : s.disk.byteIndex < s.disk.store.length
      · simp [diskWriteData_transfer v command atEnd stored, not_le.2 stored]
      · simp [diskWriteData, command, atEnd, stored, not_lt.1 stored, eq_comm (a := f)]
  · simp [diskWriteData_idle v command, command]

theorem diskRead_port (stored : s.disk.store ≠ []) : diskRead 0 s = diskReadData s := if_neg stored

theorem diskWrite_port (stored : s.disk.store ≠ []) : diskWrite 0 v s = diskWriteData v s := if_neg stored

/-- Settles O57: the index is the block number's first byte and the offset, and the cases are those of R225 and R226. -/
theorem diskDataPortTransfersOneByte : Obligations.DiskDataPortTransfersOneByte := by
  intro s v n stored index
  have index : n = s.disk.byteIndex := by rw [index, Disk.byteIndex, Disk.lba_eq]
  subst index
  rw [diskRead_port stored, diskWrite_port stored]
  refine ⟨fun idle => ⟨_, diskReadData_idle idle⟩, diskWriteData_idle v, fun command atEnd => ⟨_, diskReadData_atEnd command atEnd⟩,
    diskWriteData_atEnd v, fun command inside b byte => ?_, fun command inside byte => ?_,
    fun inside past => ⟨fun command => ?_, fun command => ?_⟩⟩
  · rw [diskReadData_transfer command inside byte, Disk.advance, command]
  · rw [diskWriteData_transfer v command inside byte, Disk.advance, command]
  · exact diskReadData_eq_fault.2 ⟨rfl, command, inside, past⟩
  · exact diskWriteData_eq_fault.2 ⟨rfl, command, inside, past⟩

/-! ## The other registers (R224, R227-R231) -/

theorem diskRead_draws (stored : s.disk.store ≠ []) (low : 1 ≤ n) (high : n ≤ 6) : diskRead n s = drawByte s := by
  unfold diskRead
  rw [if_neg stored]
  split
  · omega
  · omega
  · rfl

theorem diskRead_status (stored : s.disk.store ≠ []) : diskRead 7 s = .ok s.disk.status s := if_neg stored

theorem diskWrite_ignored (stored : s.disk.store ≠ []) (low : 1 ≤ n) (high : n ≤ 2) : diskWrite n v s = .ok () s := by
  obtain rfl | rfl : n = 1 ∨ n = 2 := by omega
  all_goals exact if_neg stored

/-- Settles O56: the arms of a read and of a write of the registers, under the test for an empty store. -/
theorem diskRegistersAnswerAsTheMapSays : Obligations.DiskRegistersAnswerAsTheMapSays := by
  refine ⟨fun s n v empty => ⟨if_pos empty, if_pos empty⟩, fun s v stored => ⟨fun n low high => ⟨_, diskRead_draws stored low high⟩,
    fun n => diskWrite_ignored stored, if_neg stored, if_neg stored, if_neg stored, ?_, if_neg stored, fun active => ?_, fun idle => ?_⟩⟩
  · rw [← BitVec.setWidth_eq_extractLsb' (by decide)]
    exact if_neg stored
  · rw [diskRead_status stored, Disk.status, if_neg active]
  · rw [diskRead_status stored, Disk.status, if_pos idle]

/-! ## A block in order (E8) -/

/-- The controller after `k` bytes more of a transfer that ends at the 512th. -/
def Disk.transferred (c : DiskClear) (k : Nat) (d : Disk) : Disk :=
  { d with
    offset := d.offset + k
    command := if d.offset + k = 512 ∧ c = .after512th then .none else d.command }

/-- Inside a block, a read advances one byte and leaves the command. -/
theorem Disk.transferred_advance (c : DiskClear) (k : Nat) (more : d.offset + 1 < 512) :
    (d.advance c).transferred c k = d.transferred c (k + 1) := by
  simp only [Disk.transferred, Disk.advance, more.ne, false_and, if_false, Nat.add_assoc, Nat.add_comm 1 k]

theorem readPort_succ {t u : State} {vs : List Byte} (first : diskRead 0 s = .ok v t) (rest : readPort n t = .ok vs u) :
    readPort (n + 1) s = .ok (v :: vs) u := by
  rw [readPort, first, Res.bind_ok, rest, Res.bind_ok]

theorem diskRead_port_transfer (command : s.disk.command = .read) (inside : s.disk.offset ≠ 512)
    (stored : s.disk.byteIndex < s.disk.store.length) :
    diskRead 0 s = .ok s.disk.store[s.disk.byteIndex] { s with disk := s.disk.advance s.cfg.diskClear } :=
  (diskRead_port (List.ne_nil_of_length_pos (Nat.zero_lt_of_lt stored))).trans
    (diskReadData_transfer command inside (List.getElem?_eq_getElem stored))

/-- Reads of the data port that stay within the block and the store give consecutive bytes of the store. -/
theorem readPort_transferred (k : Nat) (command : s.disk.command = .read) (block : s.disk.offset + (k + 1) ≤ 512)
    (stored : s.disk.byteIndex + (k + 1) ≤ s.disk.store.length) :
    readPort (k + 1) s = .ok ((s.disk.store.drop s.disk.byteIndex).take (k + 1))
      { s with disk := s.disk.transferred s.cfg.diskClear (k + 1) } := by
  induction k generalizing s with
  | zero =>
    rw [List.drop_eq_getElem_cons stored]
    exact readPort_succ (diskRead_port_transfer command (by omega) stored) rfl
  | succ k ih =>
    have more : s.disk.offset + 1 < 512 := by omega
    have offset : (s.disk.advance s.cfg.diskClear).offset = s.disk.offset + 1 := rfl
    have index : (s.disk.advance s.cfg.diskClear).byteIndex = s.disk.byteIndex + 1 := (Nat.add_assoc ..).symm
    have kept : (s.disk.advance s.cfg.diskClear).store = s.disk.store := rfl
    have reading : (s.disk.advance s.cfg.diskClear).command = .read := by simp [Disk.advance, more.ne, command]
    have rest := ih (s := { s with disk := s.disk.advance s.cfg.diskClear }) reading
      (by dsimp only; omega) (by dsimp only; rw [kept]; omega)
    dsimp only at rest
    rw [kept, index, Disk.transferred_advance _ _ more] at rest
    rw [List.drop_eq_getElem_cons (by omega), List.take_succ_cons]
    exact readPort_succ (diskRead_port_transfer command (by omega) (by omega)) rest

theorem readPort_block (command : s.disk.command = .read) (start : s.disk.offset = 0)
    (stored : s.disk.lba * 512 + 512 ≤ s.disk.store.length) :
    ∃ t, readPort 512 s = .ok ((s.disk.store.drop (s.disk.lba * 512)).take 512) t ∧
      t.disk = s.disk.transferred s.cfg.diskClear 512 := by
  have index : s.disk.byteIndex = s.disk.lba * 512 := by rw [Disk.byteIndex, start, Nat.add_zero]
  rw [← index] at stored ⊢
  exact ⟨_, readPort_transferred 511 command (by omega) stored, rfl⟩

/-- The status after a whole block (R225, R231). -/
theorem Disk.status_transferred_block (c : DiskClear) (command : d.command = .read) (start : d.offset = 0) :
    (d.transferred c 512).status = if c = .after512th then 0x50 else 0x58 := by
  cases c <;> simp [Disk.transferred, Disk.status, command, start]

/-- One read more after a whole block leaves no command, under both settings (R225). -/
theorem diskRead_past_block {c : DiskClear} (after : s.disk = d.transferred c 512) (command : d.command = .read)
    (start : d.offset = 0) (stored : d.store ≠ []) :
    ∃ v t, diskRead 0 s = .ok v t ∧ t.disk.store = d.store ∧ t.disk.command = .none := by
  have store : s.disk.store = d.store := by rw [after]; rfl
  rw [diskRead_port (store ▸ stored)]
  cases c with
  | after512th =>
    have idle : s.disk.command = .none := by simp [after, Disk.transferred, start]
    exact ⟨_, _, diskReadData_idle (by simp [idle]), store, idle⟩
  | on513th =>
    have active : s.disk.command = .read := by simp [after, Disk.transferred, command]
    exact ⟨_, _, diskReadData_atEnd active (by simp [after, Disk.transferred, start]), store, rfl⟩

/-- The controller after a Read command (R230). -/
def Disk.readStarted (d : Disk) : Disk := { d with command := .read, offset := 0 }

theorem diskWrite_readCommand (stored : s.disk.store ≠ []) : diskWrite 7 0x20 s = .ok () { s with disk := s.disk.readStarted } :=
  if_neg stored

/-- Settles O58: the command starts a block at offset 0, whose 512 bytes are read in order; the read after them is past its end. -/
theorem diskReadCommandDeliversTheSector : Obligations.DiskReadCommandDeliversTheSector := by
  intro s stored
  have nonempty : s.disk.store ≠ [] := List.ne_nil_of_length_pos (by omega)
  have lba : s.disk.readStarted.lba = s.disk.lba := rfl
  obtain ⟨s2, block, after⟩ := readPort_block (s := { s with disk := s.disk.readStarted }) rfl rfl (by rw [lba]; exact stored)
  obtain ⟨v, s3, past, store, idle⟩ := diskRead_past_block after rfl rfl nonempty
  have nonempty2 : s2.disk.store ≠ [] := after ▸ nonempty
  have nonempty3 : s3.disk.store ≠ [] := store ▸ nonempty
  rw [lba] at block
  refine ⟨_, s2, v, s3, diskWrite_readCommand nonempty, block, ?_, past, ?_⟩
  · rw [diskRead_status nonempty2, after, Disk.status_transferred_block _ rfl rfl]
  · rw [diskRead_status nonempty3, Disk.status, if_pos idle]

end Sys2Proof.Machine
end

section
/-! PROOF. The timer (spec 60_exceptions.md R233-R243, 95_test_vectors.md E9, X28, X30, X31): its registers, what a tick does to each of
its fields, and the tick on which a counter fires. -/

namespace Sys2Proof.Machine

variable {s : State} {t : Timer} {k n : Nat}

/-! ## The registers (R234-R240, R243) -/

/-- `asserted` follows the enabled flags (R236, R241). -/
theorem Timer.anyEnabled_eq (t : Timer) : t.anyEnabled = decide (t.ifr &&& t.ier &&& 0x60 ≠ 0) := by
  simp [Timer.anyEnabled, bne, beq_eq_decide]

theorem Timer.ifrValue_eq (t : Timer) :
    t.ifrValue = (t.ifr &&& 0x60) ||| (if t.ifr &&& t.ier &&& 0x60 ≠ 0 then 0x80 else 0x00) := by
  simp only [Timer.ifrValue, Timer.anyEnabled_eq, decide_eq_true_eq]

/-- The registers without a use (R243). -/
theorem Timer.unused (v : Byte) (hn : n ∈ [0, 1, 2, 3, 0xA, 0xF]) : t.write n v = t ∧ timerRead n s = drawByte s := by
  simp only [List.mem_cons, List.not_mem_nil, or_false] at hn
  obtain rfl | rfl | rfl | rfl | rfl | rfl := hn <;> exact ⟨rfl, rfl⟩

theorem Timer.recompute_eq (t : Timer) : t.recompute = { t with asserted := decide (t.ifr &&& t.ier &&& 0x60 ≠ 0) } := by
  rw [Timer.recompute, Timer.anyEnabled_eq]

/-- Settles O59: the arms of a read and of a write of the registers. -/
theorem timerRegistersReadAndWriteAsTheMapSays : Obligations.TimerRegistersReadAndWriteAsTheMapSays := by
  rintro s t v rfl
  refine ⟨rfl, rfl, rfl, rfl, ?start1, ?start2, rfl, rfl, rfl, rfl, fun n hn => ?unused, rfl, rfl, rfl, rfl, rfl, rfl, rfl, rfl, rfl, ?flags⟩
  case start1 => exact Timer.recompute_eq _
  case start2 => exact Timer.recompute_eq _
  case unused =>
    obtain ⟨write, read⟩ := Timer.unused (s := s) (t := s.timer) v hn
    exact ⟨write, _, read⟩
  case flags => rw [← Timer.ifrValue_eq]; rfl

/-! ## One tick (R241) -/

theorem sub_one_eq_ofNat (c : BitVec 16) : c - 1 = BitVec.ofNat 16 (c.toNat + 65535) := by bv_omega

theorem sub_one_eq_zero_iff (c : BitVec 16) : c - 1 = 0 ↔ c.toNat = 1 := by bv_omega

theorem Timer.tickT1_idle (idle : t.t1run = false) : t.tickT1 = t := if_neg (by simp [idle])

theorem Timer.tickT1_counts (run : t.t1run = true) (more : t.t1c.toNat ≠ 1) : t.tickT1 = { t with t1c := t.t1c - 1 } := by
  simp only [Timer.tickT1, run, sub_one_eq_zero_iff, more, if_true, if_false]

theorem Timer.tickT1_ends (run : t.t1run = true) (last : t.t1c.toNat = 1) : t.tickT1 = { t with
    ifr := if t.ier.getLsbD 6 then t.ifr ||| 0x40 else t.ifr
    t1c := if t.acr.getLsbD 6 then t.t1l else 0
    t1run := t.acr.getLsbD 6 } := by
  have zero : t.t1c - 1 = 0 := (sub_one_eq_zero_iff _).2 last
  simp only [Timer.tickT1, run, zero, if_true]

/-- Timer 1 on a tick: it counts down, and at zero it sets its flag where enabled and reloads or stops. -/
theorem Timer.tickT1_eq (t : Timer) : t.tickT1 = { t with
    t1c := if t.t1run = false then t.t1c else if t.t1c.toNat = 1 ∧ t.acr.getLsbD 6 = true then t.t1l
      else BitVec.ofNat 16 (t.t1c.toNat + 65535)
    t1run := t.t1run && (t.t1c.toNat != 1 || t.acr.getLsbD 6)
    ifr := if t.t1run && t.t1c.toNat == 1 && t.ier.getLsbD 6 then t.ifr ||| 0x40 else t.ifr } := by
  cases run : t.t1run with
  | false => rw [Timer.tickT1_idle run]; cases t; cases run; rfl
  | true =>
    by_cases last : t.t1c.toNat = 1
    · rw [Timer.tickT1_ends run last]; simp [last]
    · rw [Timer.tickT1_counts run last, sub_one_eq_ofNat]; simp [last, run]

theorem Timer.tickT2_idle (idle : t.t2run = false) : t.tickT2 = t := if_neg (by simp [idle])

theorem Timer.tickT2_counts (run : t.t2run = true) (more : t.t2c.toNat ≠ 1) : t.tickT2 = { t with t2c := t.t2c - 1 } := by
  simp only [Timer.tickT2, run, sub_one_eq_zero_iff, more, if_true, if_false]

theorem Timer.tickT2_ends (run : t.t2run = true) (last : t.t2c.toNat = 1) : t.tickT2 = { t with
    ifr := if t.ier.getLsbD 5 then t.ifr ||| 0x20 else t.ifr, t2c := 0, t2run := false } := by
  have zero : t.t2c - 1 = 0 := (sub_one_eq_zero_iff _).2 last
  simp only [Timer.tickT2, run, zero, if_true]

/-- Timer 2 on a tick: it counts down, and at zero it sets its flag where enabled and stops. -/
theorem Timer.tickT2_eq (t : Timer) : t.tickT2 = { t with
    t2c := if t.t2run = false then t.t2c else BitVec.ofNat 16 (t.t2c.toNat + 65535)
    t2run := t.t2run && t.t2c.toNat != 1
    ifr := if t.t2run && t.t2c.toNat == 1 && t.ier.getLsbD 5 then t.ifr ||| 0x20 else t.ifr } := by
  cases run : t.t2run with
  | false => rw [Timer.tickT2_idle run]; cases t; cases run; rfl
  | true =>
    by_cases last : t.t2c.toNat = 1
    · rw [Timer.tickT2_ends run last]; simp [last]
    · rw [Timer.tickT2_counts run last, sub_one_eq_ofNat]; simp [last, run]

/-- The flag register after a tick. -/
def Timer.tickedIfr (t : Timer) : Byte :=
  let one := if t.t1run && t.t1c.toNat == 1 && t.ier.getLsbD 6 then t.ifr ||| 0x40 else t.ifr
  if t.t2run && t.t2c.toNat == 1 && t.ier.getLsbD 5 then one ||| 0x20 else one

theorem getLsbD_setFlag (p m : Byte) (c : Bool) (i : Nat) :
    (if c then p ||| m else p).getLsbD i = (p.getLsbD i || (m.getLsbD i && c)) := by
  cases c <;> simp

theorem Timer.tickedIfr_getLsbD (t : Timer) (i : Nat) : t.tickedIfr.getLsbD i = (t.ifr.getLsbD i ||
    (decide (i = 6) && t.t1run && t.t1c.toNat == 1 && t.ier.getLsbD 6) ||
    (decide (i = 5) && t.t2run && t.t2c.toNat == 1 && t.ier.getLsbD 5)) := by
  have bit6 : (0x40 : Byte).getLsbD i = decide (i = 6) := (BitVec.getLsbD_twoPow 6 i).trans (by simp [eq_comm])
  have bit5 : (0x20 : Byte).getLsbD i = decide (i = 5) := (BitVec.getLsbD_twoPow 5 i).trans (by simp [eq_comm])
  simp only [Timer.tickedIfr, getLsbD_setFlag, bit6, bit5, Bool.and_assoc]

theorem Timer.tick_eq (t : Timer) : t.tick = { t with
    t1c := if t.t1run = false then t.t1c else if t.t1c.toNat = 1 ∧ t.acr.getLsbD 6 = true then t.t1l
      else BitVec.ofNat 16 (t.t1c.toNat + 65535)
    t1run := t.t1run && (t.t1c.toNat != 1 || t.acr.getLsbD 6)
    t2c := if t.t2run = false then t.t2c else BitVec.ofNat 16 (t.t2c.toNat + 65535)
    t2run := t.t2run && t.t2c.toNat != 1
    ifr := t.tickedIfr
    asserted := decide (t.tickedIfr &&& t.ier &&& 0x60 ≠ 0) } := by
  rw [Timer.tick, Timer.recompute_eq, Timer.tickT2_eq, Timer.tickT1_eq]
  rfl

/-! ## The n-th tick (E9, X28, X30, X31) -/

/-- How many ticks a running counter has to go: 0 counts as 65,536. -/
def ticksToGo (c : BitVec 16) : Nat := if c = 0 then 65536 else c.toNat

theorem ticksToGo_pos (c : BitVec 16) : 0 < ticksToGo c := by
  unfold ticksToGo
  split <;> bv_omega

theorem ticksToGo_eq_one {c : BitVec 16} (h : ticksToGo c = 1) : c.toNat = 1 := by
  unfold ticksToGo at h
  split at h <;> omega

theorem ticksToGo_succ {c : BitVec 16} (h : ticksToGo c = k + 2) : c.toNat ≠ 1 ∧ ticksToGo (c - 1) = k + 1 := by
  unfold ticksToGo at h ⊢
  split at h <;> split <;> bv_omega

/-- A timer that meets `P` until its counter `count` fires, and is not asserted till then, meets `F` after its n-th tick. -/
theorem ticks_nth {P F : Timer → Prop} {count : Timer → BitVec 16}
    (counts : ∀ t, P t → (count t).toNat ≠ 1 → P t.tick ∧ count t.tick = count t - 1 ∧ t.tick.asserted = false)
    (fires : ∀ t, P t → (count t).toNat = 1 → F t.tick) (start : P t) (hn : n = ticksToGo (count t)) :
    (∀ k, k < n → 0 < k → (ticks k t).asserted = false) ∧ F (ticks n t) := by
  obtain ⟨m, rfl⟩ := Nat.exists_eq_add_one_of_ne_zero (hn ▸ (ticksToGo_pos _).ne')
  induction m generalizing t with
  | zero => exact ⟨fun k before after => by omega, fires t start (ticksToGo_eq_one hn.symm)⟩
  | succ m ih =>
    obtain ⟨more, rest⟩ := ticksToGo_succ hn.symm
    obtain ⟨next, count, silent⟩ := counts t start more
    obtain ⟨before, fired⟩ := ih next (count ▸ rest.symm)
    refine ⟨fun k hk after => ?_, fired⟩
    match k with
    | 1 => exact silent
    | k + 2 => exact before (k + 1) (by omega) (by omega)

theorem and_ne_zero_of_getLsbD {p q m : Byte} {i : Nat} (hp : p.getLsbD i = true) (hq : q.getLsbD i = true) (hm : m.getLsbD i = true) :
    p &&& q &&& m ≠ 0 := fun zero => by
  have bit : (p &&& q &&& m).getLsbD i = true := by simp only [BitVec.getLsbD_and, hp, hq, hm, Bool.and_self]
  simp [zero] at bit

theorem Timer.recompute_silent (h : t.ifr = 0) : t.recompute.asserted = false := by
  rw [Timer.recompute_eq]
  simp [h]

theorem Timer.recompute_fired {i : Nat} (flag : t.ifr.getLsbD i = true) (enable : t.ier.getLsbD i = true)
    (timers : (0x60 : Byte).getLsbD i = true) : t.recompute.asserted = true := by
  rw [Timer.recompute_eq]
  exact decide_eq_true (and_ne_zero_of_getLsbD flag enable timers)

theorem Timer.tick_of_t1_idle (idle : t.t1run = false) : t.tick = t.tickT2.recompute := by rw [Timer.tick, Timer.tickT1_idle idle]

theorem Timer.tick_of_t2_idle (idle : t.t2run = false) : t.tick = t.tickT1.recompute := by
  have idle : t.tickT1.t2run = false := by rw [Timer.tickT1_eq]; exact idle
  rw [Timer.tick, Timer.tickT2_idle idle]

/-- Only timer 1 runs, with its enable set and no flag pending. -/
structure Timer.OnlyT1 (latch : BitVec 16) (free : Bool) (t : Timer) : Prop where
  ifr    : t.ifr = 0
  run    : t.t1run = true
  other  : t.t2run = false
  enable : t.ier.getLsbD 6 = true
  latch  : t.t1l = latch
  mode   : t.acr.getLsbD 6 = free

/-- Timer 1 fired: it runs on from its latch in free run, else it has stopped at 0. -/
def Timer.FiredT1 (latch : BitVec 16) (free : Bool) (t : Timer) : Prop :=
  t.asserted = true ∧ t.ifr = 0x40 ∧ (free = true → t.t1c = latch ∧ t.t1run = true) ∧ (free = false → t.t1c = 0 ∧ t.t1run = false)

theorem Timer.OnlyT1.counts {l : BitVec 16} {free : Bool} (h : t.OnlyT1 l free) (more : t.t1c.toNat ≠ 1) :
    t.tick.OnlyT1 l free ∧ t.tick.t1c = t.t1c - 1 ∧ t.tick.asserted = false := by
  rw [Timer.tick_of_t2_idle h.other, Timer.tickT1_counts h.run more]
  exact ⟨⟨h.ifr, h.run, h.other, h.enable, h.latch, h.mode⟩, rfl, Timer.recompute_silent h.ifr⟩

theorem Timer.OnlyT1.ends {l : BitVec 16} {free : Bool} (h : t.OnlyT1 l free) (last : t.t1c.toNat = 1) :
    t.tick.FiredT1 l free := by
  have ends : t.tickT1 = { t with ifr := 0x40, t1c := if free then l else 0, t1run := free } := by
    rw [Timer.tickT1_ends h.run last, h.ifr, h.enable, h.latch, h.mode]
    rfl
  rw [Timer.tick_of_t2_idle h.other, ends]
  have flag : (0x40 : Byte).getLsbD 6 = true := by decide
  exact ⟨Timer.recompute_fired flag h.enable (by decide), rfl, fun mode => ⟨if_pos mode, mode⟩,
    fun mode => ⟨if_neg (by simp [mode]), mode⟩⟩

/-- Only timer 2 runs, with its enable set and no flag pending. -/
structure Timer.OnlyT2 (t : Timer) : Prop where
  ifr    : t.ifr = 0
  run    : t.t2run = true
  other  : t.t1run = false
  enable : t.ier.getLsbD 5 = true

/-- Timer 2 fired, and has stopped at 0. -/
def Timer.FiredT2 (t : Timer) : Prop := t.asserted = true ∧ t.ifr = 0x20 ∧ t.t2c = 0 ∧ t.t2run = false

theorem Timer.OnlyT2.counts (h : t.OnlyT2) (more : t.t2c.toNat ≠ 1) :
    t.tick.OnlyT2 ∧ t.tick.t2c = t.t2c - 1 ∧ t.tick.asserted = false := by
  rw [Timer.tick_of_t1_idle h.other, Timer.tickT2_counts h.run more]
  exact ⟨⟨h.ifr, h.run, h.other, h.enable⟩, rfl, Timer.recompute_silent h.ifr⟩

theorem Timer.OnlyT2.ends (h : t.OnlyT2) (last : t.t2c.toNat = 1) : t.tick.FiredT2 := by
  have ends : t.tickT2 = { t with ifr := 0x20, t2c := 0, t2run := false } := by
    rw [Timer.tickT2_ends h.run last, h.ifr, h.enable]
    rfl
  rw [Timer.tick_of_t1_idle h.other, ends]
  have flag : (0x20 : Byte).getLsbD 5 = true := by decide
  exact ⟨Timer.recompute_fired flag h.enable (by decide), rfl, rfl, rfl⟩

/-- Settles O60: one tick by the parts of the two timers; the n-th by induction on the ticks to go. -/
theorem timerFiresOnTheNthTick : Obligations.TimerFiresOnTheNthTick := by
  refine ⟨fun t => ⟨t.tickedIfr, t.tick_eq, t.tickedIfr_getLsbD⟩, fun t n ifr => ⟨fun run other enable hn => ?_,
    fun run other enable hn => ?_⟩⟩
  · exact ticks_nth (fun _ => Timer.OnlyT1.counts) (fun _ => Timer.OnlyT1.ends) ⟨ifr, run, other, enable, rfl, rfl⟩ hn
  · exact ticks_nth (fun _ => Timer.OnlyT2.counts) (fun _ => Timer.OnlyT2.ends) ⟨ifr, run, other, enable⟩ hn

end Sys2Proof.Machine
end

section
/-! PROOF. The model faults (spec 60_exceptions.md R219, R22, R225, R226): where a bus access faults, what a fault later in an instruction
says of the state it started from, and that nothing is refused. -/

namespace Sys2Proof.Machine

variable {i : Instr} {s s0 t : State} {a : Addr} {v : Byte} {n : Nat} {f : Fault} {α β : Type} {P Q : State → Prop} {F : Fault → Prop}

/-! ## One bus access -/

theorem diskRead_eq_fault :
    diskRead n s = .fault f ↔ f = .diskOutOfRange ∧ n = 0 ∧ s.disk.store ≠ [] ∧ s.disk.command = .read ∧ s.disk.offset ≠ 512 ∧
      s.disk.store.length ≤ s.disk.byteIndex := by
  by_cases port : n = 0
  · subst port
    by_cases stored : s.disk.store = []
    · simp [diskRead, stored]
    · simp [diskRead_port stored, diskReadData_eq_fault, stored]
  · obtain ⟨v, t, ok, -⟩ := diskRead_off_port s port
    simp [ok, port]

theorem diskWrite_eq_fault :
    diskWrite n v s = .fault f ↔ f = .diskOutOfRange ∧ n = 0 ∧ s.disk.store ≠ [] ∧ s.disk.command = .write ∧ s.disk.offset ≠ 512 ∧
      s.disk.store.length ≤ s.disk.byteIndex := by
  by_cases port : n = 0
  · subst port
    by_cases stored : s.disk.store = []
    · simp [diskWrite, stored]
    · simp [diskWrite_port stored, diskWriteData_eq_fault, stored]
  · obtain ⟨t, ok, -⟩ := diskWrite_completes (s := s) v (.inr port)
    simp [ok, port]

/-- A read faults in the disk window, as the disk does, and nowhere else. -/
theorem busRead_eq_fault :
    busRead a s = .fault f ↔ f = .diskOutOfRange ∧ inDisk s.cfg a = true ∧ a.toNat % 8 = 0 ∧ s.disk.store ≠ [] ∧
      s.disk.command = .read ∧ s.disk.offset ≠ 512 ∧ s.disk.store.length ≤ s.disk.byteIndex := by
  unfold busRead
  split
  case isTrue disk => rw [diskRead_eq_fault, registerSelect_toNat]; simp [disk]
  case isFalse disk =>
    obtain ⟨v, t, ok, -⟩ := timerRead_completes (a &&& 15).toNat s
    rw [ok]
    split_ifs <;> simp [disk, serialReadIn]

/-- A write faults in the disk window, as the disk does, and nowhere else. -/
theorem busWrite_eq_fault :
    busWrite a v s = .fault f ↔ f = .diskOutOfRange ∧ inDisk s.cfg a = true ∧ a.toNat % 8 = 0 ∧ s.disk.store ≠ [] ∧
      s.disk.command = .write ∧ s.disk.offset ≠ 512 ∧ s.disk.store.length ≤ s.disk.byteIndex := by
  unfold busWrite
  split
  case isTrue disk => rw [diskWrite_eq_fault, registerSelect_toNat]; simp [disk]
  case isFalse disk => split_ifs <;> simp [disk]

theorem Disk.advance_command (c : DiskClear) (d : Disk) : (d.advance c).command = d.command ∨ (d.advance c).command = .none := by
  unfold Disk.advance
  split
  · exact .inr rfl
  · exact .inl rfl

theorem diskReadData_command (h : diskReadData s = .ok v t) : t.disk.command = s.disk.command ∨ t.disk.command = .none := by
  unfold diskReadData at h
  split at h
  · cases h; exact .inl rfl
  split at h
  · cases h; exact .inr rfl
  split at h
  · cases h
  · cases h; exact s.disk.advance_command _

theorem diskRead_command (h : diskRead n s = .ok v t) : t.disk.command = s.disk.command ∨ t.disk.command = .none := by
  unfold diskRead at h
  split at h
  · cases h; exact .inl rfl
  split at h
  · exact diskReadData_command h
  · cases h; exact .inl rfl
  · cases h; exact .inl rfl

/-- A read keeps the disk command or clears it (R225). -/
theorem busRead_command (h : busRead a s = .ok v t) : t.disk.command = s.disk.command ∨ t.disk.command = .none := by
  unfold busRead serialReadIn at h
  split at h
  · exact diskRead_command h
  split at h
  · cases h; exact .inl rfl
  split at h
  · cases h; exact .inl rfl
  split at h
  · obtain ⟨_, _, ok, disk⟩ := timerRead_completes (a &&& 15).toNat s
    cases ok.symm.trans h
    exact .inl (congrArg Disk.command disk)
  split at h <;> cases h <;> exact .inl rfl

/-! ## What a fault says of the state an operation began in -/

/-- The operation leaves a state that meets `P`, or its fault meets `F`. -/
def Meets (r : Res α) (P : State → Prop) (F : Fault → Prop) : Prop :=
  match r with
  | .ok _ t => P t
  | .fault f => F f

theorem Meets.bind {r : Res α} {k : α → State → Res β} (h : Meets r P F) (hk : ∀ v t, P t → Meets (k v t) Q F) :
    Meets (r.bind k) Q F := by
  cases r with
  | ok v t => exact hk v t h
  | fault f => exact h

theorem Meets.ok (v : α) (h : P s) : Meets (.ok v s) P F := h

theorem Meets.weaken {r : Res α} (h : Meets r P F) : Meets r (fun _ => True) F := by
  cases r with
  | ok => trivial
  | fault f => exact h

theorem Meets.fault {r : Res α} (h : Meets r P F) (e : r = .fault f) : F f := by subst e; exact h

/-- The operation has reached `s` from `s0`: the configuration, the length of the disk store and a held SP are as in `s0`, and if a
command of the kind `C` is active then one was in `s0`. -/
structure Within (C : DiskCommand → Prop) (s0 s : State) : Prop where
  cfg     : s.cfg = s0.cfg
  length  : s.disk.store.length = s0.disk.store.length
  held    : s0.spHeld = true → s.spHeld = true
  command : s.disk.command ≠ .none → C s.disk.command → C s0.disk.command

theorem Within.refl (C : DiskCommand → Prop) (s : State) : Within C s s := ⟨rfl, rfl, id, fun _ h => h⟩

/-- What a fault says of the state `s0` in which the operation began: the one fault is that of the data port. -/
structure PortFault (C : DiskCommand → Prop) (s0 : State) (f : Fault) : Prop where
  fault    : f = .diskOutOfRange
  attached : s0.cfg.diskAttached = true
  stored   : s0.disk.store ≠ []
  command  : C s0.disk.command

variable {C : DiskCommand → Prop}

theorem Within.portFault (h : Within C s0 s) (disk : inDisk s.cfg a = true) (stored : s.disk.store ≠ []) (active : s.disk.command ≠ .none)
    (kind : C s.disk.command) : PortFault C s0 .diskOutOfRange where
  fault := rfl
  attached := h.cfg ▸ ((inDisk_iff _ _).1 disk).1
  stored := fun empty => stored (List.eq_nil_of_length_eq_zero (by rw [h.length, empty]; rfl))
  command := h.command active kind

/-! ## Reads -/

section
variable (reads : C .read)
include reads

theorem busRead_within (a : Addr) (h : Within C s0 s) : Meets (busRead a s) (Within C s0) (PortFault C s0) := by
  cases e : busRead a s with
  | ok v t =>
    have k := (busRead_readEffect e).effect
    refine ⟨k.cfg.trans h.cfg, k.storeLength.trans h.length, fun held => ?_, fun active kind => ?_⟩
    · rw [busRead_only e]; exact h.held held
    · obtain kept | cleared := busRead_command e
      · rw [kept] at active kind; exact h.command active kind
      · exact absurd cleared active
  | fault f =>
    obtain ⟨rfl, disk, -, stored, command, -⟩ := busRead_eq_fault.1 e
    exact h.portFault disk stored (by simp [command]) (command ▸ reads)

theorem busRead16_within (a : Addr) (h : Within C s0 s) : Meets (busRead16 a s) (Within C s0) (PortFault C s0) :=
  (busRead_within reads _ h).bind fun _ _ h => (busRead_within reads _ h).bind fun _ _ h => .ok _ h

theorem busRead16zp_within (p : Byte) (h : Within C s0 s) : Meets (busRead16zp p s) (Within C s0) (PortFault C s0) :=
  (busRead_within reads _ h).bind fun _ _ h => (busRead_within reads _ h).bind fun _ _ h => .ok _ h

theorem effectiveAddress_within (m : Address) (h : Within C s0 s) : Meets (effectiveAddress m s) (Within C s0) (PortFault C s0) := by
  cases m with
  | zp | zpx | zpy | abs | absx | absy => exact .ok _ h
  | izx | izp => exact busRead16zp_within reads _ h
  | izy => exact (busRead16zp_within reads _ h).bind fun _ _ h => .ok _ h

theorem readSource_within (src : Source) (h : Within C s0 s) : Meets (readSource src s) (Within C s0) (PortFault C s0) := by
  cases src with
  | imm v => exact .ok _ h
  | mem m => exact (effectiveAddress_within reads m h).bind fun ea _ h => busRead_within reads ea h

theorem jumpTarget_within (dst : JumpOperand) (h : Within C s0 s) : Meets (jumpTarget dst s) (Within C s0) (PortFault C s0) := by
  cases dst with
  | abs => exact .ok _ h
  | ind | aix => exact busRead16_within reads _ h

theorem fetch_within (h : Within C s0 s) : Meets (fetch s) (Within C s0) (PortFault C s0) := by
  refine (busRead_within reads _ h).bind fun op t h => Meets.bind (P := Within C s0) ?_ fun _ _ h => .ok _ h
  have latched : Within C s0 (t.latchOpcode op) := ⟨h.cfg, h.length, h.held, h.command⟩
  unfold readOperandBytes
  split
  · exact .ok _ latched
  · exact (busRead_within reads _ latched).bind fun _ _ h => .ok _ h
  · exact (busRead_within reads _ latched).bind fun _ _ h => (busRead_within reads _ h).bind fun _ _ h => .ok _ h

/-! ## A write: nothing is accessed after it -/

variable (writes : C .write)

omit reads in
include writes in
theorem busWrite_last (a : Addr) (v : Byte) (h : Within C s0 s) : Meets (busWrite a v s) (fun _ => True) (PortFault C s0) := by
  cases e : busWrite a v s with
  | ok => trivial
  | fault f =>
    obtain ⟨rfl, disk, -, stored, command, -⟩ := busWrite_eq_fault.1 e
    exact h.portFault disk stored (by simp [command]) (command ▸ writes)

include writes in
theorem storeTo_last (dst : Address) (v : Byte) (h : Within C s0 s) : Meets (storeTo dst v s) (fun _ => True) (PortFault C s0) :=
  (effectiveAddress_within reads dst h).bind fun ea _ h => busWrite_last writes ea v h

include writes in
theorem modifyMem_last (dst : Address) (value : Byte → Byte) (flags : Byte → Byte → Byte) (h : Within C s0 s) :
    Meets (modifyMem dst value flags s) (fun _ => True) (PortFault C s0) :=
  (effectiveAddress_within reads dst h).bind fun ea _ h => (busRead_within reads ea h).bind fun m _ h =>
    (busWrite_last writes ea (value m) h).bind fun _ _ _ => .ok _ trivial

end

/-! ## The stack, with SP held: here any command may be active, for a push may start one -/

section
variable (any : ∀ c, C c) (held : s0.spHeld = true)
include any

theorem busWrite_within (a : Addr) (v : Byte) (h : Within C s0 s) : Meets (busWrite a v s) (Within C s0) (PortFault C s0) := by
  cases e : busWrite a v s with
  | ok u t =>
    have k := (busWrite_busEffect e).1
    refine ⟨k.cfg.trans h.cfg, k.storeLength.trans h.length, fun held => ?_, fun _ _ => any _⟩
    rw [busWrite_only e]
    exact h.held held
  | fault f => exact (busWrite_last (any _) a v h).fault e

include held

theorem push_within (v : Byte) (h : Within C s0 s) : Meets (push v s) (Within C s0) (PortFault C s0) := by
  rw [push, readSp_held (h.held held), Res.bind_ok]
  exact (busWrite_within any _ v h).bind fun _ t h => .ok _ ⟨h.cfg, h.length, fun _ => rfl, h.command⟩

theorem pull_within (h : Within C s0 s) : Meets (pull s) (Within C s0) (PortFault C s0) := by
  rw [pull_eq_busRead (h.held held)]
  exact busRead_within (any _) _ ⟨h.cfg, h.length, fun _ => rfl, h.command⟩

theorem pushWord_within (w : Addr) (h : Within C s0 s) : Meets (pushWord w s) (Within C s0) (PortFault C s0) :=
  (push_within any held _ h).bind fun _ _ h => push_within any held _ h

theorem pullWord_within (h : Within C s0 s) : Meets (pullWord s) (Within C s0) (PortFault C s0) :=
  (pull_within any held h).bind fun _ _ h => (pull_within any held h).bind fun _ _ h => .ok _ h

theorem enterException_within (ret : Addr) (p : Byte) (h : Within C s0 s) :
    Meets (enterException ret p s) (fun _ => True) (PortFault C s0) :=
  (pushWord_within any held ret h).bind fun _ _ h => (push_within any held p h).bind fun _ t h =>
    (busRead16_within (any _) breakVector (s := t.setFlag .interrupt true) ⟨h.cfg, h.length, h.held, h.command⟩).bind
      fun _ _ _ => .ok _ trivial

theorem returnFromException_within (h : Within C s0 s) : Meets (returnFromException s) (fun _ => True) (PortFault C s0) :=
  (pull_within any held h).bind fun p t h =>
    (pullWord_within any held (s := t.setP p) ⟨h.cfg, h.length, h.held, h.command⟩).bind fun _ _ _ => .ok _ trivial

theorem interruptEntry_within (h : Within C s0 s) : Meets (interruptEntry s) (fun _ => True) (PortFault C s0) :=
  (enterException_within any held _ _ h).bind fun _ _ _ => .ok _ trivial

end

/-! ## The dispatch -/

/-- The kinds of command that a fault of `i` tells of: any at all, unless `i` reads no SP. -/
def FaultKind (i : Instr) (c : DiskCommand) : Prop := i.readsSp = false → c ≠ .none

/-- What a fault of `i` from `s` says, SP being held where `i` reads it (R219). -/
def InstrFault (i : Instr) (s : State) (f : Fault) : Prop := i.accessesBus = true ∧ PortFault (FaultKind i) s f

theorem Res.outcome_eq_fault {r : Res Unit} {g : State → State} : r.outcome g = .fault f ↔ r = .fault f := by
  cases r <;> simp

/-- `i` ends as its meaning does, and a fault of that is as it may be. -/
def FaultsAtPort (i : Instr) (s : State) : Prop :=
  ∃ r finish, exec i s = Res.outcome r finish ∧ Meets r (fun _ => True) (InstrFault i s)

theorem FaultsAtPort.never {finish : State → State} (arm : exec i s = (Res.ok () t).outcome finish) : FaultsAtPort i s :=
  ⟨_, finish, arm, .ok _ trivial⟩

theorem FaultsAtPort.access {r : Res Unit} {finish : State → State} (bus : i.accessesBus = true) (arm : exec i s = r.outcome finish)
    (h : Meets r (fun _ => True) (PortFault (FaultKind i) s)) : FaultsAtPort i s := by
  refine ⟨r, finish, arm, ?_⟩
  cases r with
  | ok => trivial
  | fault f => exact ⟨bus, h⟩

theorem faultKind_read (i : Instr) : FaultKind i .read := fun _ => nofun

theorem faultKind_write (i : Instr) : FaultKind i .write := fun _ => nofun

theorem faultKind_of_readsSp (sp : i.readsSp = true) (c : DiskCommand) : FaultKind i c := fun none => by simp [sp] at none

theorem FaultsAtPort.source {src : Source} {k : Byte → State → Res Unit} {finish : State → State}
    (arm : exec i s = ((readSource src s).bind k).outcome finish) (bus : ∀ m, src = .mem m → i.accessesBus = true)
    (total : ∀ m t, ∃ u, k m t = .ok () u) : FaultsAtPort i s := by
  cases src with
  | imm v =>
    obtain ⟨u, completes⟩ := total v s
    exact .never (arm.trans (congrArg (Res.outcome · finish) completes))
  | mem m =>
    refine .access (bus m rfl) arm ((readSource_within (faultKind_read i) _ (.refl _ s)).bind fun m t _ => ?_)
    obtain ⟨u, completes⟩ := total m t
    rw [completes]
    trivial

theorem FaultsAtPort.modify {dst : Address} {value : Byte → Byte} {flags : Byte → Byte → Byte} {finish : State → State}
    (bus : i.accessesBus = true) (arm : exec i s = (modifyMem dst value flags s).outcome finish) : FaultsAtPort i s :=
  .access bus arm (modifyMem_last (faultKind_read i) (faultKind_write i) dst value flags (.refl _ s))

theorem FaultsAtPort.target {dst : Target} {value : Byte → Byte} {flags : Byte → Byte → Byte} {finish : State → State}
    (arm : exec i s = (modifyTarget dst value flags s).outcome finish) (bus : ∀ m, dst = .mem m → i.accessesBus = true) :
    FaultsAtPort i s := by
  cases dst with
  | acc => exact .never arm
  | mem m => exact .modify (bus m rfl) arm

theorem FaultsAtPort.store {dst : Address} {finish : State → State} (bus : i.accessesBus = true)
    (arm : exec i s = (storeTo dst v s).outcome finish) : FaultsAtPort i s :=
  .access bus arm (storeTo_last (faultKind_read i) (faultKind_write i) dst v (.refl _ s))

theorem FaultsAtPort.branchBit {want : Bool} {z r : Byte} {finish : State → State} (bus : i.accessesBus = true)
    (arm : exec i s = (branchBit want n z r s).outcome finish) : FaultsAtPort i s :=
  .access bus arm ((busRead_within (faultKind_read i) _ (.refl _ s)).bind fun _ _ _ => .ok _ trivial)

theorem FaultsAtPort.stack {r : Res Unit} {finish : State → State} (sp : i.readsSp = true → s.spHeld = true) (readsSp : i.readsSp = true)
    (bus : i.accessesBus = true) (arm : exec i s = r.outcome finish)
    (h : ∀ {C}, (∀ c, C c) → s.spHeld = true → Within C s s → Meets r (fun _ => True) (PortFault C s)) : FaultsAtPort i s :=
  .access bus arm (h (faultKind_of_readsSp readsSp) (sp readsSp) (.refl _ s))

theorem writeAlu_total (r : AluResult) (s : State) : ∃ u, writeAlu r s = .ok () u := by
  unfold writeAlu
  split <;> exact ⟨_, rfl⟩

/-- Every instruction that reads SP only where it is held faults at the data port or not at all. -/
theorem exec_faultsAtPort (i : Instr) (sp : i.readsSp = true → s.spHeld = true) : FaultsAtPort i s := by
  cases i with
  | lda src | ldx src | ldy src | and src | ora src | eor src | cmp src | cpx src | cpy src | bit src =>
    exact .source rfl (fun _ e => by rw [e]; rfl) fun _ _ => ⟨_, rfl⟩
  | adc src | sbc src => exact .source rfl (fun _ e => by rw [e]; rfl) fun _ _ => writeAlu_total _ _
  | sta dst | stx dst | sty dst | stz dst => exact .store rfl rfl
  | inc dst | dec dst | asl dst | lsr dst | rol dst | ror dst => exact .target rfl fun _ e => by rw [e]; rfl
  | trb dst | tsb dst | rmb0 z | rmb1 z | rmb2 z | rmb3 z | rmb4 z | rmb5 z | rmb6 z | rmb7 z | smb0 z | smb1 z | smb2 z | smb3 z
  | smb4 z | smb5 z | smb6 z | smb7 z => exact .modify rfl rfl
  | inx | iny | dex | dey | tax | tay | txa | tya | txs | clc | sec | cli | sei | cld | sed | clv | nop | nop1 | nop2 | nop3 | wai | stp
  | bcc r | bcs r | beq r | bne r | bmi r | bpl r | bvc r | bvs r | bra r => exact .never rfl
  | tsx => exact .never (congrArg (Res.outcome · _) (by rw [readSp_held (sp rfl), Res.bind_ok]))
  | bbr0 z r | bbr1 z r | bbr2 z r | bbr3 z r | bbr4 z r | bbr5 z r | bbr6 z r | bbr7 z r | bbs0 z r | bbs1 z r | bbs2 z r
  | bbs3 z r | bbs4 z r | bbs5 z r | bbs6 z r | bbs7 z r => exact .branchBit rfl rfl
  | jmp dst =>
    cases dst with
    | abs w => exact .never rfl
    | ind w | aix w => exact .access rfl rfl ((jumpTarget_within (faultKind_read _) _ (.refl _ s)).bind fun _ _ _ => .ok _ trivial)
  | jsr w => exact .stack sp rfl rfl rfl fun any held h => (pushWord_within any held _ h).bind fun _ _ _ => .ok _ trivial
  | rts => exact .stack sp rfl rfl rfl fun any held h => (pullWord_within any held h).bind fun _ _ _ => .ok _ trivial
  | brk => exact .stack sp rfl rfl rfl fun any held h => enterException_within any held _ _ h
  | rti => exact .stack sp rfl rfl rfl fun any held h => returnFromException_within any held h
  | pha | php | phx | phy => exact .stack sp rfl rfl rfl fun any held h => (push_within any held _ h).weaken
  | pla | plp | plx | ply => exact .stack sp rfl rfl rfl fun any held h => (pull_within any held h).bind fun _ _ _ => .ok _ trivial

/-! ## SP unwritten -/

theorem push_unwritten (unwritten : s.spHeld = false) : push v s = .fault .unwrittenSP := by
  rw [push, readSp_unwritten unwritten, Res.bind_fault]

theorem pull_unwritten (unwritten : s.spHeld = false) : pull s = .fault .unwrittenSP := by
  rw [pull, readSp_unwritten unwritten, Res.bind_fault]

theorem pushWord_unwritten {w : Addr} (unwritten : s.spHeld = false) : pushWord w s = .fault .unwrittenSP := by
  rw [pushWord, push_unwritten unwritten, Res.bind_fault]

theorem enterException_unwritten {ret : Addr} {p : Byte} (unwritten : s.spHeld = false) :
    enterException ret p s = .fault .unwrittenSP := by
  rw [enterException, pushWord_unwritten unwritten, Res.bind_fault]

/-- An instruction whose meaning begins with an operation that reads SP. -/
theorem exec_of_fault {r : Res α} {k : α → State → Res Unit} {finish : State → State} (arm : exec i s = (r.bind k).outcome finish)
    (e : r = .fault f) : exec i s = .fault f := by
  rw [arm, e, Res.bind_fault, Res.outcome_fault]

theorem exec_unwritten (unwritten : s.spHeld = false) (readsSp : i.readsSp = true) : exec i s = .fault .unwrittenSP := by
  cases i with
  | pha | php | phx | phy | tsx => exact exec_of_fault rfl (readSp_unwritten unwritten)
  | jsr w => exact exec_of_fault rfl (pushWord_unwritten unwritten)
  | brk => exact exec_of_fault rfl (pushWord_unwritten unwritten)
  | pla | plp | plx | ply | rti => exact exec_of_fault rfl (pull_unwritten unwritten)
  | rts => exact exec_of_fault rfl (by rw [pullWord, pull_unwritten unwritten, Res.bind_fault])
  | _ => cases readsSp

/-! ## No refusal -/

theorem exec_ne_refused (i : Instr) (s : State) (r : Refusal) : exec i s ≠ .refused r := by
  by_cases sp : i.readsSp = true → s.spHeld = true
  · obtain ⟨_, _, arm, -⟩ := exec_faultsAtPort i sp
    rw [arm]
    exact Res.outcome_ne_refused _ _ r
  · obtain ⟨readsSp, unwritten⟩ := Classical.not_imp.1 sp
    rw [exec_unwritten (Bool.eq_false_iff.2 unwritten) readsSp]
    exact nofun

theorem onNext_eq_refused {o : Host.Outcome State Fault Refusal} {g : State → State} {r : Refusal} :
    onNext o g = .refused r ↔ o = .refused r := by
  cases o <;> simp

theorem runInstruction_ne_refused (s : State) (r : Refusal) : runInstruction s ≠ .refused r := by
  unfold runInstruction
  split
  · exact exec_ne_refused _ _ r
  · exact nofun

theorem executeOne_ne_refused (s : State) (r : Refusal) : executeOne s ≠ .refused r := by
  rw [executeOne, Ne, onNext_eq_refused]
  split
  · exact Res.outcome_ne_refused _ _ r
  · exact runInstruction_ne_refused s r

theorem engineStep_ne_refused (s : State) (r : Refusal) : engineStep s ≠ .refused r := by
  unfold engineStep
  split
  · exact nofun
  split
  · exact nofun
  · split
    · exact executeOne_ne_refused _ r
    · exact nofun
  · exact executeOne_ne_refused _ r

theorem step_ne_refused (s : State) (r : Refusal) : step s ≠ .refused r := by
  unfold step harnessStep
  split
  · exact engineStep_ne_refused _ r
  · exact nofun

/-! ## The rule -/

/-- A fault of an instruction that reads SP only where it is held. Where it reads SP, some transfer was active by O43. -/
theorem exec_eq_fault (sp : i.readsSp = true → s.spHeld = true) (h : exec i s = .fault f) :
    i.accessesBus = true ∧ PortFault (· ≠ .none) s f := by
  obtain ⟨r, finish, arm, meets⟩ := exec_faultsAtPort i sp
  obtain ⟨bus, fault, attached, stored, command⟩ := meets.fault (Res.outcome_eq_fault.1 (arm ▸ h))
  refine ⟨bus, fault, attached, stored, fun idle => ?_⟩
  cases readsSp : i.readsSp with
  | false => exact command readsSp idle
  | true =>
    obtain ⟨t, completes, -⟩ := exec_advances i ⟨sp readsSp, idle, rfl⟩
    cases completes.symm.trans h

/-- Settles O38: bus accesses by the disk's data port, and an instruction, an interrupt entry or a fetch by the accesses it makes. -/
theorem modelFaultsAreExactlyTheTwoOfTheRule : Obligations.ModelFaultsAreExactlyTheTwoOfTheRule := by
  refine ⟨fun i s => exec_unwritten, fun s unwritten => ?entry, fun s v stored inside past => ⟨fun command => ?_, fun command => ?_⟩,
    fun i s f sp h => ?exec, fun s f held h => ?held, fun s f h => ?fetch, fun a s f => busRead_eq_fault, fun a v s f => busWrite_eq_fault,
    step_ne_refused⟩
  case entry => rw [interruptEntry, enterException_unwritten unwritten, Res.bind_fault]
  · exact diskRead_eq_fault.2 ⟨rfl, rfl, stored, command, inside.ne, past⟩
  · exact diskWrite_eq_fault.2 ⟨rfl, rfl, stored, command, inside.ne, past⟩
  case exec =>
    have sp : i.readsSp = true → s.spHeld = true := fun readsSp => sp.resolve_right (by simp [readsSp])
    obtain ⟨bus, fault, attached, stored, command⟩ := exec_eq_fault sp h
    exact ⟨fault, bus, attached, stored, fun _ => command⟩
  case held =>
    obtain ⟨fault, attached, stored, -⟩ := (interruptEntry_within (C := fun _ => True) (fun _ => trivial) held (.refl _ s)).fault h
    exact ⟨fault, attached, stored⟩
  case fetch =>
    obtain ⟨fault, attached, stored, command⟩ := (fetch_within (C := (· = .read)) rfl (.refl _ s)).fault h
    exact ⟨fault, attached, stored, command⟩

end Sys2Proof.Machine
end

section
/-! PROOF. One step of the engine (spec 60_exceptions.md R210-R214, R262, 40_addressing.md R90): which of its modes it follows, the
interrupt entry, the fetched instruction, the tick, and what each leaves of the engine's own fields. -/

namespace Sys2Proof

/-! ## Operand bytes that are not read (R78) -/

theorem Address.withBytes_of_one (b1 b2 c2 : Byte) {a : Address} (h : a.bytes < 2) : a.withBytes b1 b2 = a.withBytes b1 c2 := by
  cases a with
  | abs | absx | absy => exact absurd h (lt_irrefl 2)
  | _ => rfl

theorem Source.withBytes_of_one (b1 b2 c2 : Byte) {s : Source} (h : s.bytes < 2) : s.withBytes b1 b2 = s.withBytes b1 c2 := by
  cases s with
  | imm => rfl
  | mem a => exact congrArg Source.mem (a.withBytes_of_one b1 b2 c2 h)

theorem Target.withBytes_of_one (b1 b2 c2 : Byte) {d : Target} (h : d.bytes < 2) : d.withBytes b1 b2 = d.withBytes b1 c2 := by
  cases d with
  | acc => rfl
  | mem a => exact congrArg Target.mem (a.withBytes_of_one b1 b2 c2 h)

/-- A form that reads at most one byte does not look at the second. -/
theorem Instr.withBytes_of_one (b1 b2 c2 : Byte) {i : Instr} (h : i.operandReads < 2) : i.withBytes b1 b2 = i.withBytes b1 c2 := by
  cases i with
  | lda src | ldx src | ldy src | adc src | sbc src | cmp src | cpx src | cpy src | and src | ora src | eor src | bit src =>
    exact congrArg _ (src.withBytes_of_one b1 b2 c2 h)
  | sta dst | stx dst | sty dst | stz dst | trb dst | tsb dst => exact congrArg _ (dst.withBytes_of_one b1 b2 c2 h)
  | inc dst | dec dst | asl dst | lsr dst | rol dst | ror dst => exact congrArg _ (dst.withBytes_of_one b1 b2 c2 h)
  | jmp | jsr | bbr0 | bbr1 | bbr2 | bbr3 | bbr4 | bbr5 | bbr6 | bbr7 | bbs0 | bbs1 | bbs2 | bbs3 | bbs4 | bbs5 | bbs6 | bbs7 =>
    exact absurd h (lt_irrefl 2)
  | _ => rfl

theorem Address.bytes_ne_zero (a : Address) : a.bytes ≠ 0 := by cases a <;> exact Nat.succ_ne_zero _

theorem Source.bytes_ne_zero (s : Source) : s.bytes ≠ 0 := by
  cases s with
  | imm => exact Nat.succ_ne_zero 0
  | mem a => exact a.bytes_ne_zero

/-- A form that reads no byte is itself whatever the bytes are. -/
theorem Instr.withBytes_of_none (b1 b2 : Byte) {i : Instr} (h : i.operandReads = 0) : i.withBytes b1 b2 = i := by
  cases i with
  | lda src | ldx src | ldy src | adc src | sbc src | cmp src | cpx src | cpy src | and src | ora src | eor src | bit src =>
    exact absurd h src.bytes_ne_zero
  | sta dst | stx dst | sty dst | stz dst | trb dst | tsb dst => exact absurd h dst.bytes_ne_zero
  | inc dst | dec dst | asl dst | lsr dst | rol dst | ror dst =>
    cases dst with
    | acc => rfl
    | mem a => exact absurd h a.bytes_ne_zero
  | rmb0 | rmb1 | rmb2 | rmb3 | rmb4 | rmb5 | rmb6 | rmb7 | smb0 | smb1 | smb2 | smb3 | smb4 | smb5 | smb6 | smb7 | bcc | bcs | beq
  | bne | bmi | bpl | bvc | bvs | bra | bbr0 | bbr1 | bbr2 | bbr3 | bbr4 | bbr5 | bbr6 | bbr7 | bbs0 | bbs1 | bbs2 | bbs3 | bbs4
  | bbs5 | bbs6 | bbs7 | jmp | jsr => exact absurd h (Nat.succ_ne_zero _)
  | _ => rfl

theorem decodeBytes_of_no_read {ext : Bool} {op : Byte} (h : operandReadsOf ext op = 0) (b1 b2 : Byte) :
    decodeBytes ext op b1 b2 = decodeBytes ext op 0 0 :=
  (decodeBytes_withBytes ext op b1 b2).trans (Instr.withBytes_of_none b1 b2 h)

theorem decodeBytes_of_one_read {ext : Bool} {op : Byte} (h : operandReadsOf ext op = 1) (b1 b2 : Byte) :
    decodeBytes ext op b1 b2 = decodeBytes ext op b1 0 := by
  rw [decodeBytes_withBytes, decodeBytes_withBytes ext op b1 0]
  exact Instr.withBytes_of_one b1 b2 0 (Nat.lt_succ_of_le (le_of_eq h))

/-- Three bytes hold every instruction. -/
theorem decode_three_bytes {ext : Bool} {op b1 b2 : Byte} {i : Instr} {rest : List Byte} (h : decode ext [op, b1, b2] = .ok (i, rest)) :
    i = decodeBytes ext op b1 b2 := by
  simp only [decode] at h
  split at h
  · cases h
  · cases h; rfl

end Sys2Proof

namespace Sys2Proof.Machine

variable {s t u : State} {i : Instr}

/-! ## The step by its modes (R210) -/

theorem step_of_no_command (noCommand : s.commands.headD [] = []) : step s = engineStep s.takeCommands := by
  rw [step, harnessStep, State.pending, noCommand, applyCommands]

/-- The engine looks at the mode where it runs or was asked for one step. -/
def State.Awake (s : State) : Prop := s.runState = .running ∨ s.stepRequest = .stepOnce

theorem engineStep_of_asleep (run : s.runState = .paused) (request : s.stepRequest = .idle) : engineStep s = .next s.logAndStall :=
  if_pos ⟨run, request⟩

theorem State.Awake.not_asleep (h : s.Awake) : ¬(s.runState = .paused ∧ s.stepRequest = .idle) := by
  rintro ⟨run, request⟩
  obtain h | h := h
  · cases run.symm.trans h
  · cases request.symm.trans h

theorem engineStep_of_stopped_awake (awake : s.Awake) (mode : s.cpuMode = .stopped) :
    engineStep s = .next s.clearRequest.logAndStall := by
  rw [engineStep, if_neg awake.not_asleep, mode]

theorem engineStep_of_waiting (awake : s.Awake) (mode : s.cpuMode = .waiting) :
    engineStep s = if s.irqLine then executeOne (s.clearRequest.setMode .executing) else .next s.clearRequest.endStep := by
  rw [engineStep, if_neg awake.not_asleep, mode]

theorem engineStep_of_executing (awake : s.Awake) (mode : s.cpuMode = .executing) : engineStep s = executeOne s.clearRequest := by
  rw [engineStep, if_neg awake.not_asleep, mode]

/-! ## What executing leaves of the engine's fields -/

/-- The processor ran from `s` to `t`: the engine's fields are as they were, and the events added are output bytes. -/
structure Runs (s t : State) : Prop where
  runState    : t.runState = s.runState
  stepRequest : t.stepRequest = s.stepRequest
  logLevel    : t.logLevel = s.logLevel
  outputs     : ∃ out : List Byte, t.events = s.events ++ out.map .outputByte

theorem Runs.silent (runState : t.runState = s.runState) (stepRequest : t.stepRequest = s.stepRequest) (logLevel : t.logLevel = s.logLevel)
    (events : t.events = s.events) : Runs s t := ⟨runState, stepRequest, logLevel, [], by simp [events]⟩

theorem Runs.trans (h : Runs s t) (k : Runs t u) : Runs s u := by
  obtain ⟨x, hx⟩ := h.outputs
  obtain ⟨y, hy⟩ := k.outputs
  exact ⟨k.runState.trans h.runState, k.stepRequest.trans h.stepRequest, k.logLevel.trans h.logLevel, x ++ y,
    by rw [hy, hx, List.map_append, List.append_assoc]⟩

theorem BusEffect.runs (k : BusEffect s t) (runState : t.runState = s.runState) (stepRequest : t.stepRequest = s.stepRequest)
    (logLevel : t.logLevel = s.logLevel) : Runs s t := by
  obtain ⟨out, emitted⟩ := k.outputs
  exact ⟨runState, stepRequest, logLevel, out, emitted.events⟩

theorem fetch_runs (h : fetch s = .ok i t) : Runs s t := by
  obtain ⟨⟨op, b1, b2, -, e⟩, k⟩ := fetch_ok h
  refine k.effect.runs ?_ ?_ ?_ <;> rw [e] <;> rfl

theorem exec_runs (h : exec i s = .next t) : Runs s t := by
  obtain ⟨u, f, rfl⟩ := exec_frame h
  exact (f.effect.addCycles _).runs f.regs.runState f.regs.stepRequest f.regs.logLevel

theorem runInstruction_runs (h : runInstruction s = .next t) : Runs s t := by
  unfold runInstruction at h
  split at h
  · rename_i hf
    exact (fetch_runs hf).trans (exec_runs h)
  · cases h

theorem interruptEntry_runs (h : interruptEntry s = .ok () t) : Runs s t := by
  obtain ⟨-, e, k⟩ := interruptEntry_ok h
  refine k.runs ?_ ?_ ?_ <;> rw [e] <;> rfl

theorem State.tickAll_runs (s : State) : Runs s s.tickAll := .silent rfl rfl rfl rfl

/-- An executing step: what ran, then the tick and the logging. -/
theorem executeOne_runs (h : executeOne s = .next t) : ∃ u, Runs s u ∧ t = u.logAndStall := by
  obtain ⟨u, hu, rfl⟩ := onNext_eq_next.1 h
  refine ⟨u.tickAll, Runs.trans ?_ u.tickAll_runs, rfl⟩
  split at hu
  · obtain ⟨v, hv, rfl⟩ := Res.outcome_eq_next.1 hu
    exact interruptEntry_runs hv
  · exact runInstruction_runs hu

/-- Where the engine is awake its step consumes the request, lets the processor run or not, and ends with the logging. -/
theorem engineStep_of_awake (awake : s.Awake) (h : engineStep s = .next t) : ∃ u, Runs s.clearRequest u ∧ t = u.logAndStall := by
  have rests : Runs s.clearRequest s.clearRequest := .silent rfl rfl rfl rfl
  cases mode : s.cpuMode with
  | stopped =>
    rw [engineStep_of_stopped_awake awake mode] at h
    cases h
    exact ⟨_, rests, rfl⟩
  | waiting =>
    rw [engineStep_of_waiting awake mode] at h
    split at h
    · obtain ⟨u, runs, rfl⟩ := executeOne_runs h
      exact ⟨u, Runs.trans (t := s.clearRequest.setMode .executing) (.silent rfl rfl rfl rfl) runs, rfl⟩
    · cases h
      exact ⟨_, State.tickAll_runs _, rfl⟩
  | executing =>
    rw [engineStep_of_executing awake mode] at h
    exact executeOne_runs h

theorem State.awake_or_asleep (s : State) : s.Awake ∨ (s.runState = .paused ∧ s.stepRequest = .idle) := by
  unfold State.Awake
  cases s.runState <;> cases s.stepRequest <;> simp

/-- A step of the engine at log level 0 (R262): logging does nothing, so only output bytes are emitted. -/
theorem engineStep_silent (level : s.logLevel = 0) (h : engineStep s = .next t) :
    t.runState = s.runState ∧ t.logLevel = 0 ∧ ∃ out : List Byte, t.events = s.events ++ out.map .outputByte := by
  obtain awake | ⟨run, request⟩ := s.awake_or_asleep
  · obtain ⟨u, runs, rfl⟩ := engineStep_of_awake awake h
    have level : u.logLevel = 0 := runs.logLevel.trans level
    rw [State.logAndStall_silent level]
    exact ⟨runs.runState, level, runs.outputs⟩
  · rw [engineStep_of_asleep run request, State.logAndStall_silent level] at h
    cases h
    exact ⟨rfl, level, [], by simp⟩

/-- Settles O45: each mode is a branch of the engine's step, and what may change before its logging is known. -/
theorem stepFollowsTheModes : Obligations.StepFollowsTheModes := by
  refine ⟨fun s noCommand => ?_, fun s => ⟨rfl, State.logAndStall_silent, State.logAndStall_logging⟩⟩
  have step_eq := step_of_no_command noCommand
  rw [step_eq]
  refine ⟨engineStep_of_asleep (s := s.takeCommands), fun awake => ?_, fun t h level => engineStep_silent (s := s.takeCommands) level h⟩
  have awake : s.takeCommands.Awake := awake
  refine ⟨engineStep_of_stopped_awake awake, fun mode line => ?_, fun mode line => ?_, fun t h => ?_⟩
  · rw [engineStep_of_waiting awake mode, if_neg (by simp [line])]
    rfl
  · have executing : State.Awake (s.takeCommands.setMode .executing) := awake
    rw [engineStep_of_waiting awake mode, if_pos (show s.takeCommands.irqLine = true from line)]
    exact ((step_of_no_command (s := s.setMode .executing) noCommand).trans (engineStep_of_executing executing rfl)).symm
  · obtain ⟨u, runs, rfl⟩ := engineStep_of_awake awake h
    rw [State.logAndStall_stepRequest, runs.stepRequest]
    rfl

/-! ## The interrupt (R213, R214) -/

theorem executeOne_of_interrupt (line : s.irqLine = true) (enabled : getFlag .interrupt s.p = false) :
    executeOne s = onNext ((interruptEntry s).outcome id) State.endStep := by
  have taken : s.takesInterrupt = true := by rw [State.takesInterrupt, line, State.flag, enabled]; rfl
  rw [executeOne, if_pos taken]

theorem executeOne_of_no_interrupt (h : s.irqLine = false ∨ getFlag .interrupt s.p = true) :
    executeOne s = onNext (runInstruction s) State.endStep := by
  have not_taken : ¬s.takesInterrupt = true := by
    rw [State.takesInterrupt, State.flag]
    obtain h | h := h <;> simp [h]
  rw [executeOne, if_neg not_taken]

theorem step_of_executing (noCommand : s.commands.headD [] = []) (awake : s.runState = .running ∨ s.stepRequest = .stepOnce)
    (mode : s.cpuMode = .executing) : step s = executeOne s.takeCommands.clearRequest :=
  (step_of_no_command noCommand).trans (engineStep_of_executing (s := s.takeCommands) awake mode)

/-- Settles O46: the test of an executing step, and the entry whose pushes and vector read complete. -/
theorem interruptEntryReplacesTheInstruction : Obligations.InterruptEntryReplacesTheInstruction := by
  refine ⟨fun s noCommand awake mode => ?_, fun s s1 s2 s3 s4 s5 lo hi high low status vectorLow vectorHigh => ?_⟩
  · rw [step_of_executing noCommand awake mode]
    exact ⟨executeOne_of_interrupt (s := s.takeCommands.clearRequest), executeOne_of_no_interrupt (s := s.takeCommands.clearRequest)⟩
  · have kept : s3.p = s.p := (push_p status).trans ((push_p low).trans (push_p high))
    rw [← kept] at vectorLow
    have entered : enterException s.pc ((s.p &&& ~~~0x10) ||| 0x20) s = .ok () (s5.setPc (word hi lo)) :=
      enterException_of_accesses (pushWord_of_pushes high low) status (busRead16_of_reads vectorLow vectorHigh)
    have entry : interruptEntry s = .ok () ((s5.setPc (word hi lo)).addCycles s5.cfg.irqCycles) := by
      rw [interruptEntry, entered, Res.bind_ok]
      rfl
    obtain ⟨-, only, effect⟩ := interruptEntry_ok entry
    have cfg : s5.cfg = s.cfg := effect.cfg
    refine ⟨?_, (congrArg State.currentInstruction only :)⟩
    rw [entry, State.addCycles, ← cfg]
    rfl

/-- Settles O47: by whether the VIA is present. -/
theorem tickAllRecomputesTheIrqLine : Obligations.TickAllRecomputesTheIrqLine := by
  intro s
  refine ⟨fun present => ?_, fun absent => ?_⟩
  · simp [State.tickAll, present]
  · simp [State.tickAll, absent]

/-! ## The fetched instruction (R90, R210) -/

theorem fetch_plain (p0 : isPlain s.cfg s.pc = true) (p1 : isPlain s.cfg (s.pc + 1) = true) (p2 : isPlain s.cfg (s.pc + 2) = true) :
    fetch s = .ok (decodeBytes s.cfg.wdcUnnamedExt (s.byteAt s.pc) (s.byteAt (s.pc + 1)) (s.byteAt (s.pc + 2)))
      (s.latchOpcode (s.byteAt s.pc)) := by
  have first : busRead (s.pc + 1) (s.latchOpcode (s.byteAt s.pc)) = .ok (s.byteAt (s.pc + 1)) _ := busRead_plain p1
  have second : busRead (s.pc + 2) (s.latchOpcode (s.byteAt s.pc)) = .ok (s.byteAt (s.pc + 2)) _ := busRead_plain p2
  cases reads : operandReadsOf s.cfg.wdcUnnamedExt (s.byteAt s.pc) with
  | zero =>
    rw [decodeBytes_of_no_read reads]
    exact fetch_of_reads (busRead_plain p0) (by rw [reads]; rfl)
  | succ n =>
    cases n with
    | zero =>
      rw [decodeBytes_of_one_read reads]
      exact fetch_of_reads (busRead_plain p0) (by rw [reads]; exact readOperandBytes_one first)
    | succ n => exact fetch_of_reads (busRead_plain p0) (by rw [reads]; exact readOperandBytes_two first second)

theorem step_of_fetch (noCommand : s.commands.headD [] = []) (awake : s.runState = .running ∨ s.stepRequest = .stepOnce)
    (mode : s.cpuMode = .executing) (noInterrupt : s.irqLine = false ∨ getFlag .interrupt s.p = true)
    (fetched : fetch s.takeCommands.clearRequest = .ok i t) : step s = onNext (exec i t) State.endStep := by
  rw [step_of_executing noCommand awake mode, executeOne_of_no_interrupt (s := s.takeCommands.clearRequest) noInterrupt, runInstruction, fetched]

/-- Settles O44: the fetch gives a well-formed instruction, and on plain bytes it is the one they decode to. -/
theorem stepRunsTheDecodedInstruction : Obligations.StepRunsTheDecodedInstruction := by
  intro s noCommand awake mode noInterrupt
  have plain := fetch_plain (s := s.takeCommands.clearRequest)
  refine ⟨fun i s1 fetched => ⟨fetch_wellFormed (s := s.takeCommands.clearRequest) fetched, step_of_fetch noCommand awake mode noInterrupt fetched⟩,
    fun i rest p0 p1 p2 decoded => ?_⟩
  obtain rfl := decode_three_bytes decoded
  exact ⟨decodeBytes_wellFormed .., step_of_fetch noCommand awake mode noInterrupt (plain p0 p1 p2)⟩

end Sys2Proof.Machine
end

section
/-! PROOF. The host's commands and its receiver (spec 60_exceptions.md R252, R258, R260, R263, R265, 93_implementation_defined.md U25):
commands in order before the step, and a step that is the same but for what is the host's. -/

namespace Sys2Proof.Machine

variable {s s1 t : State} {c : HostCommand} {cs : List HostCommand} {es : List EngineEvent}

/-! ## Commands in order -/

/-- A command leaves those to come (R258). -/
theorem applyCommand_commands (h : applyCommand c s = .ok () s1) : s1.commands = s.commands := by
  obtain ⟨es, host⟩ := (applyCommand_blind c).hostSide h
  exact (congrArg HostSide.commands host :)

theorem step_of_command (pending : s.commands.headD [] = c :: cs) (applied : applyCommand c s.takeCommands = .ok () s1) :
    step s = step { s1 with commands := cs :: s.commands.tail } := by
  have later : s1.commands = s.commands.tail := applyCommand_commands applied
  have rest : State.takeCommands { s1 with commands := cs :: s.commands.tail } = s1 := by
    rw [← later]
    rfl
  rw [step, harnessStep, State.pending, pending, applyCommands, applied, Res.bind_ok, step, harnessStep, rest]
  rfl

theorem sendAt_zero (c : HostCommand) (q : List (List HostCommand)) : sendAt c 0 q = (q.headD [] ++ [c]) :: q.tail := by
  cases q <;> rfl

/-! ## The same step with another host -/

theorem onNext_congr {o : Host.Outcome State Fault Refusal} {g g' : State → State} (h : ∀ t, o = .next t → g t = g' t) :
    onNext o g = onNext o g' := by
  cases o with
  | next t => exact congrArg Host.Outcome.next (h t rfl)
  | fault f => rfl
  | refused r => rfl

/-- The events a step emits are the same with every other host that has the same commands pending now (U25). -/
theorem step_events (s : State) : ∃ es, (∀ t, step s = .next t → t.hostSide = s.hostSide.nextBoundary.emitAll es) ∧
    ∀ o : HostSide, o.commands.headD [] = s.commands.headD [] →
      step (s.withHost o) = onNext (step s) (State.withHost (o.nextBoundary.emitAll es)) := by
  obtain ⟨es, blind⟩ := step_blind s
  refine ⟨es, fun t h => ?_, blind⟩
  have same := blind s.hostSide rfl
  rw [s.withHost_hostSide, h] at same
  exact congrArg State.hostSide (Host.Outcome.next.inj same)

/-- The step is the same with one command more at a later boundary, which is then one boundary nearer (R265). -/
theorem step_send_succ (s : State) (k : Nat) (c : HostCommand) : step (s.send (k + 1) c) = onNext (step s) (State.send k c) := by
  obtain ⟨es, host, blind⟩ := step_events s
  have sent := blind { s.hostSide with commands := sendAt c (k + 1) s.commands } (sendAt_succ_headD c k s.commands)
  refine sent.trans (onNext_congr fun t h => ?_)
  have host := host t h
  have commands : t.commands = s.commands.tail := (congrArg HostSide.commands host :)
  calc t.withHost (HostSide.emitAll { s.hostSide.nextBoundary with commands := (sendAt c (k + 1) s.commands).tail } es)
      = t.withHost { s.hostSide.nextBoundary.emitAll es with commands := sendAt c k s.commands.tail } := by rw [sendAt_succ_tail]; rfl
    _ = t.withHost { t.hostSide with commands := sendAt c k t.commands } := by rw [host, commands]

/-- What a step does to the events, and what the receiver gets of them. -/
theorem step_emitted (h : step s = .next t) : ∃ es, Emitted es s t := by
  obtain ⟨es, host⟩ := step_hostSide h
  exact ⟨es, congrArg HostSide.receiver host, congrArg HostSide.events host, congrArg HostSide.delivered host⟩

theorem Receiver.arrivals_of_kept {r : Receiver} (n : Nat) (h : r = .kept) : r.arrivals n es = es := by rw [h, Receiver.arrivals_kept]

theorem Receiver.arrivals_of_gone {r : Receiver} (n : Nat) (h : r = .gone) : r.arrivals n es = [] := by rw [h, Receiver.arrivals_gone]

/-- Only what is delivered looks at the receiver and at what was delivered before (U25). -/
theorem step_receiver (s : State) (r : Receiver) (d : List EngineEvent) : ∃ e : List EngineEvent,
    step { s with receiver := r, delivered := d } = onNext (step s) fun t => { t with receiver := r, delivered := d ++ e } := by
  obtain ⟨es, host, blind⟩ := step_events s
  refine ⟨r.arrivals s.events.length es, (blind { s.hostSide with receiver := r, delivered := d } rfl).trans (onNext_congr fun t h => ?_)⟩
  have host := host t h
  have commands : t.commands = s.commands.tail := (congrArg HostSide.commands host :)
  have events : t.events = s.events ++ es := (congrArg HostSide.events host :)
  show t.withHost ⟨s.commands.tail, r, s.events ++ es, d ++ r.arrivals s.events.length es⟩ = _
  rw [← commands, ← events]
  rfl

/-- Settles O48: the commands by their table, and the rest by what a step may look at of the host's side. -/
theorem hostCommandsApplyInOrderBeforeTheStep : Obligations.HostCommandsApplyInOrderBeforeTheStep := by
  refine ⟨fun s s1 c cs => step_of_command, fun s c => ?send, fun s k c => ⟨⟨_, rfl⟩, step_send_succ s k c⟩,
    fun s => ⟨rfl, rfl, rfl, fun c low => ?low, fun c high => ?high, fun n => rfl, fun run => ?_, fun run => ?_, rfl⟩,
    fun s es => ?emit, fun s t h => ?emitted, step_receiver⟩
  case send => rw [State.send, sendAt_zero]
  case low => rw [applyCommand, State.sendInput, if_pos low]; rfl
  case high => rw [applyCommand, State.sendInput, if_neg (Nat.not_le.2 high)]
  · rw [applyCommand, run]; rfl
  · rw [applyCommand, run]; rfl
  case emit =>
    exact ⟨_, s.receiver.arrivals_sublist s.events.length es, Receiver.arrivals_of_kept _, Receiver.arrivals_of_gone _, rfl⟩
  case emitted =>
    obtain ⟨es, receiver, events, delivered⟩ := step_emitted h
    exact ⟨receiver, es, _, events, delivered, s.receiver.arrivals_sublist _ es, Receiver.arrivals_of_kept _, Receiver.arrivals_of_gone _⟩

end Sys2Proof.Machine
end

section
/-! PROOF. Reset (spec 70_reset_and_hazards.md R270): the fields it writes, then PC from the vector through the bus. -/

namespace Sys2Proof.Machine

variable {s s1 s2 : State} {lo hi : Byte}

/-- The reset sequence where both reads of the vector complete: PC is the word read, all else as the reads leave it (R270). -/
theorem resetSequence_of_reads (low : busRead 0xFFFC s.resetFields = .ok lo s1) (high : busRead 0xFFFD s1 = .ok hi s2) :
    resetSequence s = .ok () (s2.setPc (word hi lo)) := by
  have vector : busRead16 resetVector s.resetFields = .ok (word hi lo) s2 := busRead16_of_reads low high
  rw [resetSequence, vector, Res.bind_ok]

/-- Settles O50: the vector is the word of its two reads, made from the state with the reset values. -/
theorem resetSequenceWritesTheResetValues : Obligations.ResetSequenceWritesTheResetValues :=
  fun _ _ _ _ _ low high => resetSequence_of_reads low high

end Sys2Proof.Machine
end
